-- ==== Sys2Proof/Word.lean ====
section
/-! DEFINITION. The word types of the W65C816 (R6, R8): bytes, 16-bit words, 24-bit addresses. -/

namespace Sys2Proof

/-- 8 bits: a byte of memory, DBR, PBR (R6). -/
abbrev Byte := BitVec 8

/-- 16 bits: C, X, Y, S, D, PC, and an address inside a bank (R6). -/
abbrev Word := BitVec 16

/-- 24 bits: `bank:addr16`, an address of the one address space (R6, R39). -/
abbrev Addr := BitVec 24

end Sys2Proof
end

