-- ==== Sys2Proof/Config.lean ====
section
/-! DEFINITION. The free values of the model: what the spec writes `any` (R10), and what the platform answers (R40).
None has a body, so no proof can depend on what it is. Each is applied to the number of the draw (the field `draws`
of the state, which every draw advances), so no two draws are tied together. -/

namespace Sys2Proof.Config

/-- One free bit: the V flag of decimal arithmetic and the flags after operands that are not BCD (R169), bit 4 of
the status byte COP pushes in emulation mode (R34, U4), N V Z C after a reset (R400). -/
opaque freeBit : Nat → Bool

/-- One free byte: XL, YL, SL after a reset (R400). -/
opaque freeByte : Nat → Byte

/-- One free 16-bit word: the accumulator after a reset (R400) and after decimal arithmetic on operands that are not
BCD (R169). -/
opaque freeWord : Nat → Word

/-- What a read of an address with neither memory nor a device returns (R71). -/
opaque openBus : Nat → Addr → Byte

/-- What a device answers to a read (R40, R73). -/
opaque deviceAnswer : Nat → Addr → Byte

end Sys2Proof.Config
end

