-- ==== Sys2Proof/Machine/Bits.lean ====
section
/-! DEFINITION. Bytes of words and addresses, byte order, sign extension (R8, R10, R60, R94). -/

namespace Sys2Proof.Machine

/-- `v[7:0]`. -/
def lo (v : Word) : Byte := v.extractLsb' 0 8

/-- `v[15:8]`. -/
def hi (v : Word) : Byte := v.extractLsb' 8 8

/-- `h:l`, the word with `h` in bits 15..8 (R8). -/
def word (h l : Byte) : Word := h ++ l

/-- `bank:addr16`, the 24-bit address with the bank in bits 23..16 (R8). -/
def bankAddr (b : Byte) (a : Word) : Addr := b ++ a

/-- The bank of an address, bits 23..16. -/
def bankOf (a : Addr) : Byte := a.extractLsb' 16 8

/-- The address inside its bank, bits 15..0. -/
def offsetOf (a : Addr) : Word := a.extractLsb' 0 16

/-- `zext` of a byte to a word. -/
def zext (b : Byte) : Word := b.setWidth 16

/-- `sext_8` of a byte, as a word (R10; R94, the offset of mode `r`). -/
def sext (b : Byte) : Word := b.signExtend 16

/-- `zext` of a word to an address: an index added to a 24-bit base (R130 to R132). -/
def zextAddr (v : Word) : Addr := v.setWidth 24

end Sys2Proof.Machine
end

