-- ==== Sys2Proof/Machine/Memory.lean ====
section
/-! DEFINITION. The bytes of the address space (R39) as a list of (address, byte) pairs in one canonical form:
addresses strictly rising and below 2^24, no entry equal to what an unlisted address reads as. -/

namespace Sys2Proof.Machine

/-- Memory contents (R39). -/
abbrev Memory := List Host.Cell

/-- What an unlisted address reads as. The spec leaves the launch contents to the platform (R40): DESIGN CHOICE 00H,
unsafe (log 3). -/
def Memory.unlisted : Byte := 0x00#8

/-- The byte at address `a`. -/
def Memory.get : Memory → Nat → Byte
  | [], _ => Memory.unlisted
  | (k, v) :: rest, a => if k = a then v else Memory.get rest a

/-- Put one cell before `rest`, unless it holds what an unlisted address reads as. -/
def Memory.put (a : Nat) (v : Byte) (rest : Memory) : Memory :=
  if v = Memory.unlisted then rest else (a, v) :: rest

/-- Store one byte, keeping the canonical form. -/
def Memory.set : Memory → Nat → Byte → Memory
  | [], a, v => Memory.put a v []
  | (k, u) :: rest, a, v =>
    if a < k then Memory.put a v ((k, u) :: rest)
    else if a = k then Memory.put a v rest
    else (k, u) :: Memory.set rest a v

/-- The canonical form of the cells from address `low` on. -/
def Memory.wfFrom (low : Nat) : Memory → Bool
  | [] => true
  | (a, v) :: rest =>
    decide (low ≤ a) && decide (a < 2 ^ 24) && decide (v ≠ Memory.unlisted) && Memory.wfFrom (a + 1) rest

/-- The canonical form. -/
def Memory.wf (m : Memory) : Bool := Memory.wfFrom 0 m

/-- The 16-bit word at `00:a`, its second byte at `00:(a + 1 mod 2^16)` (`MemRead0`, R65), of memory alone: the
reset vector of `State.reset`. -/
def Memory.word0 (m : Memory) (a : Word) : Word :=
  word (m.get (bankAddr 0x00#8 (a + 1)).toNat) (m.get (bankAddr 0x00#8 a).toNat)

end Sys2Proof.Machine
end

