-- ==== Sys2Proof/Machine/Params.lean ====
section
/-! DEFINITION. The parameters the spec's model takes as arguments (R7, R40): the platform's memory map and the six
named settings. They are plain data held beside the state, and no step changes them. -/

namespace Sys2Proof.Machine

/-- What the platform has at an address (R40, R63, R71, D22). -/
inductive RegionKind where
  | ram | rom | device | unpopulated
deriving DecidableEq, Repr

/-- One region of the memory map: the addresses `first` to `last`, both included. -/
structure Region where
  first : Nat
  last  : Nat
  kind  : RegionKind
deriving DecidableEq, Repr

/-- EMU_PAGE_WRAP (R150, OPEN). -/
inductive PageWrap where
  | formula | page
deriving DecidableEq, Repr

/-- BLOCK_MOVE_INTERRUPTIBLE (R343, OPEN). -/
inductive BlockStep where
  | atomic | perByte
deriving DecidableEq, Repr

/-- SRC_BLOCK_MOVE_DIRECTION (R341, R342). `source`: MVN counts down, MVP counts up. -/
inductive BlockDirection where
  | source | other
deriving DecidableEq, Repr

/-- SRC_BLOCK_MOVE_FINAL_C (R340). -/
inductive BlockFinalC where
  | zero | ffff
deriving DecidableEq, Repr

/-- SRC_JMP_AX_POINTER_BANK (R143). -/
inductive PointerBank where
  | bank00 | programBank
deriving DecidableEq, Repr

/-- The parameters of R7 that are not free values. -/
structure Params where
  memMap                 : List Region
  emuPageWrap            : PageWrap
  blockMoveInterruptible : BlockStep
  blockMoveDirection     : BlockDirection
  blockMoveFinalC        : BlockFinalC
  txsSetsNZ              : Bool
  jmpPointerBank         : PointerBank
deriving DecidableEq, Repr

/-- The defaults of R7 where it gives one; the two OPEN settings and the memory map are DESIGN CHOICES (unsafe when a
statement rests on them, which none does): formula (log 7), perByte (log 8), every address RAM (log 4). -/
def paramDefaults : Params :=
  { memMap                 := []
    emuPageWrap            := .formula
    blockMoveInterruptible := .perByte
    blockMoveDirection     := .source
    blockMoveFinalC        := .zero
    txsSetsNZ              := true
    jmpPointerBank         := .bank00 }

/-- What stands at address `a`: the first region that holds it, and RAM where none does (log 4). -/
def kindAt : List Region → Nat → RegionKind
  | [], _ => .ram
  | r :: rest, a => if r.first ≤ a && a ≤ r.last then r.kind else kindAt rest a

end Sys2Proof.Machine
end

