-- ==== Sys2Proof/Machine/State.lean ====
section
/-! DEFINITION. The state of the machine, its reasons to stop, and the state right after reset. -/

namespace Sys2Proof.Machine

/-- The eight flags of P, bit 7 down to bit 0 (R28). In emulation mode M and X are both 1 (R30); there is no stored
B flag, the byte image is made when P is pushed (R34). -/
structure Status where
  n : Bool
  v : Bool
  m : Bool
  x : Bool
  d : Bool
  i : Bool
  z : Bool
  c : Bool
deriving DecidableEq, Repr

/-- The programmer-visible registers (R20). `sp` is S, `dr` is D. -/
structure Regs where
  c   : Word
  x   : Word
  y   : Word
  sp  : Word
  dr  : Word
  dbr : Byte
  pbr : Byte
  pc  : Word
  p   : Status
  e   : Bool
deriving DecidableEq, Repr

/-- Whether the processor fetches instructions (R36). -/
inductive RunState where
  | running | waiting | stopped
deriving DecidableEq, Repr

/-- What the platform does before one step (R362): the levels it drives on IRQ and RESET, and whether it gives an
NMI event. -/
structure PlatformInput where
  irqLine   : Bool
  nmiEvent  : Bool
  resetLine : Bool
deriving DecidableEq, Repr

/-- One access to a device address, in the order R69 gives. -/
inductive DeviceAccess where
  | read  (a : Addr) (answer : Byte)
  | write (a : Addr) (value : Byte)
deriving DecidableEq, Repr

/-- The whole machine. The first six fields are the spec's state (R20, R36, R39), `params` the spec's parameters (R7),
the last three the model's own (log 2, log 5, log 12). -/
structure State where
  regs       : Regs
  run        : RunState
  irqLine    : Bool
  nmiPending : Bool
  resetLine  : Bool
  mem        : Memory
  params     : Params
  inputs     : List PlatformInput
  draws      : Nat
  deviceLog  : List DeviceAccess
deriving DecidableEq, Repr

/-- Reasons to stop with a fault: none. The spec knows no fault (R354): every opcode is defined, no access fails, and
the exceptions it describes are taken as next states (R355). -/
inductive Fault where
deriving DecidableEq, Repr

/-- Reasons to refuse an instruction. -/
inductive Refusal where
  /-- Raised by an arm of `exec` whose instruction has no meaning; no arm is one now. Safe: it stops. -/
  | notModelled (mnemonic : String)
deriving DecidableEq, Repr

/-- The three outcomes over this machine. -/
abbrev Result := Host.Outcome State Fault Refusal

/-- The machine right after reset (R37, R400). A, B, XL, YL, SL, N, V, Z, C are `any` there; here each is zero:
DESIGN CHOICE, unsafe (log 1). With nothing listed in memory the reset vector reads 0000H (log 3). -/
def State.reset : State :=
  { regs :=
      { c := 0x0000#16, x := 0x0000#16, y := 0x0000#16, sp := 0x0100#16, dr := 0x0000#16
        dbr := 0x00#8, pbr := 0x00#8, pc := Memory.word0 [] 0xFFFC#16
        p := { n := false, v := false, m := true, x := true, d := false, i := true, z := false, c := false }
        e := true }
    run := .running
    irqLine := false
    nmiPending := false
    resetLine := false
    mem := []
    params := paramDefaults
    inputs := []
    draws := 0
    deviceLog := [] }

end Sys2Proof.Machine
end

