-- ==== Sys2Proof/Machine/Flags.lean ====
section
/-! DEFINITION. Operation widths, the arithmetic of the accumulator and index operations with the flags it gives
(R28, R29, R31), the shifts, decimal arithmetic (R169), and the byte image of P (R34, R35). A value of width 8 is a
word whose high byte is zero. -/

namespace Sys2Proof.Machine

/-- 8 or 16 bits: the width M or X selects (R28, R29). -/
inductive Width where
  | w8 | w16
deriving DecidableEq, Repr

/-- The number of bits. -/
def Width.bits : Width → Nat
  | .w8 => 8
  | .w16 => 16

/-- The number of bytes moved (`wA/8`, `wX/8`, R67). -/
def Width.bytes : Width → Nat
  | .w8 => 1
  | .w16 => 2

/-- The width a flag selects: 1 is 8 bits, 0 is 16 bits (R28, R29). -/
def Width.ofFlag (flag : Bool) : Width := if flag then .w8 else .w16

/-- `v mod 2^w`. -/
def Width.trunc : Width → Word → Word
  | .w8, v => word 0x00#8 (lo v)
  | .w16, v => v

/-- `v[w-1]`. -/
def Width.msb (w : Width) (v : Word) : Bool := v.getLsbD (w.bits - 1)

/-- `v[w-2]`. -/
def Width.nextMsb (w : Width) (v : Word) : Bool := v.getLsbD (w.bits - 2)

/-- A number reduced to the width. -/
def Width.reduce (w : Width) (n : Nat) : Word := BitVec.ofNat 16 (n % 2 ^ w.bits)

/-- `SetNZ(v, w)` (R31). -/
def Status.setNZ (w : Width) (v : Word) (p : Status) : Status :=
  { p with n := w.msb v, z := decide (w.trunc v = 0x0000#16) }

/-- What an addition, a subtraction or a comparison gives (R31). -/
structure Sum where
  value    : Word
  carry    : Bool
  overflow : Bool
deriving DecidableEq, Repr

/-- The binary half of ADC (R161). -/
def addBinary (w : Width) (a m : Word) (c : Bool) : Sum :=
  let sum := a.toNat + m.toNat + c.toNat
  let r := w.reduce sum
  { value := r
    carry := decide (2 ^ w.bits ≤ sum)
    overflow := (w.msb a == w.msb m) && (w.msb r != w.msb a) }

/-- The binary half of SBC: `a + (not m) + C` (R167). -/
def subBinary (w : Width) (a m : Word) (c : Bool) : Sum :=
  let sum := a.toNat + (2 ^ w.bits - 1 - m.toNat) + c.toNat
  let r := w.reduce sum
  { value := r
    carry := decide (2 ^ w.bits ≤ sum)
    overflow := (w.msb a != w.msb m) && (w.msb r != w.msb a) }

/-- `(a - m) mod 2^w` (R163, R203, R204). -/
def subMod (w : Width) (a m : Word) : Word := w.reduce (a.toNat + 2 ^ w.bits - m.toNat)

/-- The flags of CMP, CPX, CPY: N and Z of the difference, C = no borrow (R163, R203, R204). -/
def Status.compare (w : Width) (a m : Word) (p : Status) : Status :=
  { p.setNZ w (subMod w a m) with c := decide (m.toNat ≤ a.toNat) }

/-! ### Decimal arithmetic (R169) -/

/-- The number of decimal digits, `k = w/4`. -/
def Width.digits : Width → Nat
  | .w8 => 2
  | .w16 => 4

/-- Whether each of the `k` low 4-bit groups is 0 to 9. -/
def bcdValid : Nat → Nat → Bool
  | 0, _ => true
  | k + 1, v => decide (v % 16 ≤ 9) && bcdValid k (v / 16)

/-- `dec(v)`: the number the `k` low digits spell. -/
def bcdDecode : Nat → Nat → Nat
  | 0, _ => 0
  | k + 1, v => v % 16 + 10 * bcdDecode k (v / 16)

/-- The BCD encoding of `n` in `k` digits. -/
def bcdEncode : Nat → Nat → Nat
  | 0, _ => 0
  | k + 1, n => n % 10 + 16 * bcdEncode k (n / 10)

/-- Both operands of a decimal ADC or SBC are valid BCD (R169). -/
def decimalOperands (w : Width) (a m : Word) : Bool :=
  bcdValid w.digits a.toNat && bcdValid w.digits m.toNat

/-- Decimal ADC on valid operands: the result and C (R169). -/
def addDecimal (w : Width) (a m : Word) (c : Bool) : Word × Bool :=
  let s := bcdDecode w.digits a.toNat + bcdDecode w.digits m.toNat + c.toNat
  (BitVec.ofNat 16 (bcdEncode w.digits (s % 10 ^ w.digits)), decide (10 ^ w.digits ≤ s))

/-- Decimal SBC on valid operands: the result and C (R169). -/
def subDecimal (w : Width) (a m : Word) (c : Bool) : Word × Bool :=
  let s : Int := (bcdDecode w.digits a.toNat : Int) - bcdDecode w.digits m.toNat - (!c).toNat
  (BitVec.ofNat 16 (bcdEncode w.digits (s % (10 ^ w.digits : Nat)).toNat), decide (0 ≤ s))

/-! ### Shifts and counts: the result and the new C, from the operand (of width `w`) and the old C -/

/-- ROR (R182). -/
def rorResult (w : Width) (v : Word) (c : Bool) : Word × Bool :=
  (w.reduce (c.toNat * 2 ^ (w.bits - 1) + v.toNat / 2), v.getLsbD 0)

/-- ASL (R183). -/
def aslResult (w : Width) (v : Word) (_ : Bool) : Word × Bool :=
  (w.reduce (v.toNat * 2), w.msb v)

/-- LSR (R184). -/
def lsrResult (w : Width) (v : Word) (_ : Bool) : Word × Bool :=
  (w.reduce (v.toNat / 2), v.getLsbD 0)

/-- ROL (R185). -/
def rolResult (w : Width) (v : Word) (c : Bool) : Word × Bool :=
  (w.reduce (v.toNat * 2 + c.toNat), w.msb v)

/-- INC: C is unchanged (R186). -/
def incResult (w : Width) (v : Word) (c : Bool) : Word × Bool :=
  (w.reduce (v.toNat + 1), c)

/-- DEC: C is unchanged (R187). -/
def decResult (w : Width) (v : Word) (c : Bool) : Word × Bool :=
  (w.reduce (v.toNat + (2 ^ w.bits - 1)), c)

/-! ### The byte image of P -/

/-- `PackP(b)` (R34): N V M X D I Z C in native mode, N V 1 b D I Z C in emulation mode. -/
def Status.pack (e b : Bool) (p : Status) : Byte :=
  BitVec.ofBool p.n ++ BitVec.ofBool p.v ++ BitVec.ofBool (e || p.m) ++ BitVec.ofBool (if e then b else p.x) ++
    BitVec.ofBool p.d ++ BitVec.ofBool p.i ++ BitVec.ofBool p.z ++ BitVec.ofBool p.c

/-- The flag half of `UnpackP(v)` (R34): in emulation mode bits 5 and 4 are ignored. -/
def Status.unpack (e : Bool) (v : Byte) (p : Status) : Status :=
  { n := v.getLsbD 7
    v := v.getLsbD 6
    m := if e then p.m else v.getLsbD 5
    x := if e then p.x else v.getLsbD 4
    d := v.getLsbD 3
    i := v.getLsbD 2
    z := v.getLsbD 1
    c := v.getLsbD 0 }

end Sys2Proof.Machine
end

