-- ==== Sys2Proof/Machine/Ops.lean ====
section
/-! DEFINITION. The named operations over registers, free values, memory and the stack; taking an interrupt (R355),
returning from one (R279), and the reset sequence (R400). Every one of them is total: the machine has no fault (R354). -/

namespace Sys2Proof.Machine

/-! ### Registers -/

/-- The accumulator width `wA` (R22, R28). -/
def Regs.wA (r : Regs) : Width := Width.ofFlag r.p.m

/-- The index width `wX` (R23, R29). -/
def Regs.wX (r : Regs) : Width := Width.ofFlag r.p.x

/-- `Acc`: A when M = 1, C when M = 0 (R22). -/
def Regs.acc (r : Regs) : Word := r.wA.trunc r.c

/-- The 16-bit accumulator with its low `w` bits replaced: B is kept when `w = 8` (R22). -/
def withLow : Width → Word → Word → Word
  | .w8, old, v => word (hi old) (lo v)
  | .w16, _, v => v

/-- `Acc <- v` (R22). -/
def Regs.setAcc (v : Word) (r : Regs) : Regs := { r with c := withLow r.wA r.c v }

/-- X <- v, reduced to `wX` bits and zero-extended (R23, R215). -/
def Regs.setX (v : Word) (r : Regs) : Regs := { r with x := r.wX.trunc v }

/-- Y <- v, reduced to `wX` bits and zero-extended (R23, R215). -/
def Regs.setY (v : Word) (r : Regs) : Regs := { r with y := r.wX.trunc v }

/-- S <- v; in emulation mode only SL is written (R24, R224, R236). -/
def Regs.setS (v : Word) (r : Regs) : Regs :=
  { r with sp := if r.e then word (hi r.sp) (lo v) else v }

/-- `SetNZ(v, w)` on P (R31). -/
def Regs.setNZ (w : Width) (v : Word) (r : Regs) : Regs := { r with p := r.p.setNZ w v }

/-- `PC <- nextPC`, the opcode's address plus the length, inside the bank (R27, R93). -/
def Regs.advance (len : Nat) (r : Regs) : Regs := { r with pc := r.pc + BitVec.ofNat 16 len }

/-- XH and YH become 00H when the X flag is 1 (R23, R35). -/
def Regs.narrowIndex (r : Regs) : Regs :=
  if r.p.x then { r with x := word 0x00#8 (lo r.x), y := word 0x00#8 (lo r.y) } else r

/-- `UnpackP(v)` (R34, R35). -/
def Regs.unpackP (v : Byte) (r : Regs) : Regs :=
  let r' := { r with p := r.p.unpack r.e v }
  if r.e then r' else r'.narrowIndex

/-- DecS (R33). -/
def Regs.decS (r : Regs) : Regs := r.setS (if r.e then word (hi r.sp) (lo r.sp - 1) else r.sp - 1)

/-- IncS (R33). -/
def Regs.incS (r : Regs) : Regs := r.setS (if r.e then word (hi r.sp) (lo r.sp + 1) else r.sp + 1)

/-- Change the registers and nothing else. -/
def State.onRegs (f : Regs → Regs) (s : State) : State := { s with regs := f s.regs }

/-! ### Free values (`any`, R10) -/

/-- Count one draw. -/
def State.countDraw (s : State) : State := { s with draws := s.draws + 1 }

/-- Draw one free bit. -/
def drawBit (s : State) : Bool × State := (Config.freeBit s.draws, s.countDraw)

/-- Draw one free byte. -/
def drawByte (s : State) : Byte × State := (Config.freeByte s.draws, s.countDraw)

/-- Draw one free word. -/
def drawWord (s : State) : Word × State := (Config.freeWord s.draws, s.countDraw)

/-! ### Bytes of memory -/

/-- What the platform has at an address (R40). -/
def State.kindAt (s : State) (a : Addr) : RegionKind := Sys2Proof.Machine.kindAt s.params.memMap a.toNat

/-- The byte memory holds at an address, whatever stands there. -/
def State.byteAt (s : State) (a : Addr) : Byte := s.mem.get a.toNat

/-- Record one access to a device (R69, R73). -/
def State.logDevice (x : DeviceAccess) (s : State) : State := { s with deviceLog := x :: s.deviceLog }

/-- Store one byte in memory. -/
def State.poke (a : Addr) (v : Byte) (s : State) : State := { s with mem := s.mem.set a.toNat v }

/-- Read one byte: RAM and ROM give what they hold, an unpopulated address gives any value (R71), a device what it
answers (R40). -/
def readByte (a : Addr) (s : State) : Byte × State :=
  match s.kindAt a with
  | .ram => (s.byteAt a, s)
  | .rom => (s.byteAt a, s)
  | .unpopulated => (Config.openBus s.draws a, s.countDraw)
  | .device =>
    let v := Config.deviceAnswer s.draws a
    (v, s.countDraw.logDevice (.read a v))

/-- Write one byte: only RAM keeps it; ROM and an unpopulated address drop it (R71), a device is told (R73). -/
def writeByte (a : Addr) (v : Byte) (s : State) : State :=
  match s.kindAt a with
  | .ram => s.poke a v
  | .rom => s
  | .unpopulated => s
  | .device => s.logDevice (.write a v)

/-! ### Accesses of one to three bytes -/

/-- An effective address with its wrap pattern (R145, R65, R66): `bank` keeps the bank and wraps modulo 2^16 (bank 00
is the pattern `b0`), `lin` is linear modulo 2^24, `page` stays inside a page of bank 00 (R150). -/
inductive EA where
  | bank (b : Byte) (a : Word)
  | lin  (a : Addr)
  | page (a : Word)
deriving DecidableEq, Repr

/-- The pattern `b0` (R145). -/
def EA.b0 (a : Word) : EA := .bank 0x00#8 a

/-- The address of byte `i` of an access (R65, R150). -/
def EA.byteAddr (ea : EA) (i : Nat) : Addr :=
  match ea with
  | .bank b a => bankAddr b (a + BitVec.ofNat 16 i)
  | .lin a => a + BitVec.ofNat 24 i
  | .page a => bankAddr 0x00#8 (word (hi a) (lo a + BitVec.ofNat 8 i))

/-- A 2-byte read, low byte first (R60, R69). -/
def read16 (ea : EA) (s : State) : Word × State :=
  let l := readByte (ea.byteAddr 0) s
  let h := readByte (ea.byteAddr 1) l.2
  (word h.1 l.1, h.2)

/-- A 3-byte read in ascending order (R60, R69). -/
def read24 (ea : EA) (s : State) : Addr × State :=
  let l := read16 ea s
  let b := readByte (ea.byteAddr 2) l.2
  (bankAddr b.1 l.1, b.2)

/-- `LoadEA(ea, n)` at a width (R145, R67). -/
def loadEA (ea : EA) (w : Width) (s : State) : Word × State :=
  match w with
  | .w8 =>
    let r := readByte (ea.byteAddr 0) s
    (word 0x00#8 r.1, r.2)
  | .w16 => read16 ea s

/-- `StoreEA(ea, n, v)` at a width, low byte first: STA STX STY STZ (R145, R67, R69). -/
def storeEA (ea : EA) (w : Width) (v : Word) (s : State) : State :=
  match w with
  | .w8 => writeByte (ea.byteAddr 0) (lo v) s
  | .w16 => writeByte (ea.byteAddr 1) (hi v) (writeByte (ea.byteAddr 0) (lo v) s)

/-- The write of a read-modify-write instruction: the high byte first (R69). -/
def storeBackEA (ea : EA) (w : Width) (v : Word) (s : State) : State :=
  match w with
  | .w8 => writeByte (ea.byteAddr 0) (lo v) s
  | .w16 => writeByte (ea.byteAddr 0) (lo v) (writeByte (ea.byteAddr 1) (hi v) s)

/-! ### The stack (R24, R33) -/

/-- The address of the top of the stack, `00:S`. -/
def Regs.stackAddr (r : Regs) : Addr := bankAddr 0x00#8 r.sp

/-- `Push8(v)`. -/
def push8 (v : Byte) (s : State) : State := (writeByte s.regs.stackAddr v s).onRegs Regs.decS

/-- `Push16(v)`: the high byte first. -/
def push16 (v : Word) (s : State) : State := push8 (lo v) (push8 (hi v) s)

/-- `Pull8()`. -/
def pull8 (s : State) : Byte × State :=
  let s' := s.onRegs Regs.incS
  readByte s'.regs.stackAddr s'

/-- `Pull16()`: the low byte first. -/
def pull16 (s : State) : Word × State :=
  let l := pull8 s
  let h := pull8 l.2
  (word h.1 l.1, h.2)

/-- Push a value of a width: one byte or two (R260). -/
def pushWidth (w : Width) (v : Word) (s : State) : State :=
  match w with
  | .w8 => push8 (lo v) s
  | .w16 => push16 v s

/-- Pull a value of a width: one byte or two (R260). -/
def pullWidth (w : Width) (s : State) : Word × State :=
  match w with
  | .w8 =>
    let r := pull8 s
    (word 0x00#8 r.1, r.2)
  | .w16 => pull16 s

/-! ### Interrupts (R350 to R363) -/

/-- The sources that enter a handler (R351). -/
inductive IntSource where
  | cop | brk | nmi | irq
deriving DecidableEq, Repr

/-- The vector's address in bank 00 (R352). -/
def vectorAddr : IntSource → Bool → Word
  | .cop, false => 0xFFE4#16
  | .brk, false => 0xFFE6#16
  | .nmi, false => 0xFFEA#16
  | .irq, false => 0xFFEE#16
  | .cop, true => 0xFFF4#16
  | .brk, true => 0xFFFE#16
  | .nmi, true => 0xFFFA#16
  | .irq, true => 0xFFFE#16

/-- The reset vector's address (R352, R400). -/
def resetVector : Word := 0xFFFC#16

/-- The registers after the pushes and before the vector is read: I <- 1, D <- 0, PBR <- 00H (R355). -/
def Regs.enterHandler (r : Regs) : Regs :=
  { r with p := { r.p with i := true, d := false }, pbr := 0x00#8 }

/-- `PC <- v`. -/
def Regs.jump (v : Word) (r : Regs) : Regs := { r with pc := v }

/-- The pushes of an interrupt entry: PBR in native mode only, the return address, the image of P (R355). -/
def pushFrame (ret : Word) (b : Bool) (s : State) : State :=
  let s1 := if s.regs.e then s else push8 s.regs.pbr s
  let s2 := push16 ret s1
  push8 (s2.regs.p.pack s2.regs.e b) s2

/-- `Enter(ret, b, v)`: taking an interrupt (R355). -/
def enter (src : IntSource) (ret : Word) (b : Bool) (s : State) : State :=
  let s1 := (pushFrame ret b s).onRegs Regs.enterHandler
  let v := read16 (EA.b0 (vectorAddr src s1.regs.e)) s1
  { v.2.onRegs (Regs.jump v.1) with run := .running }

/-- Taking an NMI at an instruction boundary (R361). -/
def takeNmi (s : State) : State := enter .nmi s.regs.pc false { s with nmiPending := false }

/-- Taking an IRQ at an instruction boundary (R360). -/
def takeIrq (s : State) : State := enter .irq s.regs.pc false s

/-- Return from interrupt: P, PC, and in native mode PBR; nothing is added to the pulled PC (R279, R357). -/
def returnFromInterrupt (s : State) : State :=
  let p := pull8 s
  let s1 := p.2.onRegs (Regs.unpackP p.1)
  let a := pull16 s1
  let s2 := a.2.onRegs (Regs.jump a.1)
  if s2.regs.e then s2
  else
    let b := pull8 s2
    b.2.onRegs fun r => { r with pbr := b.1 }

/-! ### Reset (R400) -/

/-- The register values of a reset, the ones it leaves open as arguments (R37, R400). -/
def resetRegs (c : Word) (xl yl sl : Byte) (n v z cf : Bool) : Regs :=
  { c := c
    x := word 0x00#8 xl
    y := word 0x00#8 yl
    sp := word 0x01#8 sl
    dr := 0x0000#16
    dbr := 0x00#8
    pbr := 0x00#8
    pc := 0x0000#16
    p := { n := n, v := v, m := true, x := true, d := false, i := true, z := z, c := cf }
    e := true }

/-- `Reset()`: what the step does while the platform asserts RESET (R400). -/
def resetSequence (s : State) : State :=
  let c := drawWord s
  let xl := drawByte c.2
  let yl := drawByte xl.2
  let sl := drawByte yl.2
  let n := drawBit sl.2
  let v := drawBit n.2
  let z := drawBit v.2
  let cf := drawBit z.2
  let s1 := { cf.2 with
    regs := resetRegs c.1 xl.1 yl.1 sl.1 n.1 v.1 z.1 cf.1, nmiPending := false, run := .running }
  let pc := read16 (EA.b0 resetVector) s1
  pc.2.onRegs (Regs.jump pc.1)

end Sys2Proof.Machine
end

