-- ==== Sys2Proof/Machine/Boundary.lean ====
section
/-! DEFINITION. The instruction boundary: the platform's inputs, and steps 1 to 5 of R362. -/

namespace Sys2Proof.Machine

/-- What the platform does before a step: it may drive the lines and give an NMI event (R36, R361, R362). With no
input left the lines stay as they are. -/
def takeInput (s : State) : State :=
  match s.inputs with
  | [] => s
  | e :: rest =>
    { s with
      irqLine := e.irqLine, resetLine := e.resetLine
      nmiPending := s.nmiPending || e.nmiEvent, inputs := rest }

/-- What a boundary leads to: the step is over, or an instruction is fetched in this state. -/
inductive Boundary where
  | done    (s : State)
  | execute (s : State)
deriving DecidableEq, Repr

/-- Steps 1 to 5 of the step function, in this order: RESET, stopped, NMI, IRQ, waiting (R362, R359, R365, R366). -/
def boundary (s : State) : Boundary :=
  if s.resetLine then .done (resetSequence s)
  else if s.run = .stopped then .done s
  else if s.nmiPending then .done (takeNmi s)
  else if s.irqLine && !s.regs.p.i then .done (takeIrq s)
  else if s.run = .waiting then
    if s.irqLine then .execute { s with run := .running } else .done s
  else .execute s

end Sys2Proof.Machine
end

