-- ==== Sys2Proof/Syntax.lean ====
section
/-! DEFINITION. The instructions of the W65C816: one constructor for each of the 256 rows of spec/opcode_table.json
(R90, R95, R96), its operand bytes already assembled (R94). -/

namespace Sys2Proof

/-- The 92 mnemonics (R96, R99). -/
inductive Mnemonic where
  -- Group 1, accumulator and memory
  | adc | and | cmp | eor | lda | ora | sbc | sta
  -- Group 2, bit test, shifts, counts, status bits
  | bit | ror | asl | lsr | rol | inc | dec | rep | sep | trb | tsb
  -- Group 3, index registers and memory
  | ldx | ldy | cpx | cpy | stx | sty | stz
  -- Group 4, implied
  | inx | iny | dex | dey | tax | tay | tsx | txa | txs | txy | tya | tyx
  | clc | cld | cli | clv | sec | sed | sei | tcd | tcs | tdc | tsc | xba
  | xce | stp | wai | wdm | nop
  -- Group 5, stack
  | pha | phb | phd | phk | php | phx | phy | pla | plb | pld | plp | plx
  | ply | pea | pei | per | brk | cop | rti | rtl | rts
  -- Group 6, relative branches
  | bcc | bcs | beq | bmi | bne | bpl | bra | brl | bvc | bvs
  -- Group 7, jumps and calls
  | jml | jmp | jsl | jsr
  -- Group 8, block moves
  | mvn | mvp
deriving DecidableEq, Repr

/-- The mnemonic as the tables print it (R99). -/
def Mnemonic.name : Mnemonic → String
  | .adc => "ADC"
  | .and => "AND"
  | .cmp => "CMP"
  | .eor => "EOR"
  | .lda => "LDA"
  | .ora => "ORA"
  | .sbc => "SBC"
  | .sta => "STA"
  | .bit => "BIT"
  | .ror => "ROR"
  | .asl => "ASL"
  | .lsr => "LSR"
  | .rol => "ROL"
  | .inc => "INC"
  | .dec => "DEC"
  | .rep => "REP"
  | .sep => "SEP"
  | .trb => "TRB"
  | .tsb => "TSB"
  | .ldx => "LDX"
  | .ldy => "LDY"
  | .cpx => "CPX"
  | .cpy => "CPY"
  | .stx => "STX"
  | .sty => "STY"
  | .stz => "STZ"
  | .inx => "INX"
  | .iny => "INY"
  | .dex => "DEX"
  | .dey => "DEY"
  | .tax => "TAX"
  | .tay => "TAY"
  | .tsx => "TSX"
  | .txa => "TXA"
  | .txs => "TXS"
  | .txy => "TXY"
  | .tya => "TYA"
  | .tyx => "TYX"
  | .clc => "CLC"
  | .cld => "CLD"
  | .cli => "CLI"
  | .clv => "CLV"
  | .sec => "SEC"
  | .sed => "SED"
  | .sei => "SEI"
  | .tcd => "TCD"
  | .tcs => "TCS"
  | .tdc => "TDC"
  | .tsc => "TSC"
  | .xba => "XBA"
  | .xce => "XCE"
  | .stp => "STP"
  | .wai => "WAI"
  | .wdm => "WDM"
  | .nop => "NOP"
  | .pha => "PHA"
  | .phb => "PHB"
  | .phd => "PHD"
  | .phk => "PHK"
  | .php => "PHP"
  | .phx => "PHX"
  | .phy => "PHY"
  | .pla => "PLA"
  | .plb => "PLB"
  | .pld => "PLD"
  | .plp => "PLP"
  | .plx => "PLX"
  | .ply => "PLY"
  | .pea => "PEA"
  | .pei => "PEI"
  | .per => "PER"
  | .brk => "BRK"
  | .cop => "COP"
  | .rti => "RTI"
  | .rtl => "RTL"
  | .rts => "RTS"
  | .bcc => "BCC"
  | .bcs => "BCS"
  | .beq => "BEQ"
  | .bmi => "BMI"
  | .bne => "BNE"
  | .bpl => "BPL"
  | .bra => "BRA"
  | .brl => "BRL"
  | .bvc => "BVC"
  | .bvs => "BVS"
  | .jml => "JML"
  | .jmp => "JMP"
  | .jsl => "JSL"
  | .jsr => "JSR"
  | .mvn => "MVN"
  | .mvp => "MVP"

/-- The 24 addressing modes, in the order of R120. -/
inductive Mode where
  | immediate | absolute | absoluteLong | direct | accumulator | implied
  | stack | directX | directY | absoluteX | absoluteY | absoluteLongX
  | stackRelative | directXIndirect | directIndirectY | directIndirectLongY | stackRelativeIndirectY | directIndirect
  | directIndirectLong | relative | relativeLong | absoluteIndirect | absoluteIndexedIndirect | xyc
deriving DecidableEq, Repr

/-- The abbreviation the opcode tables use (R120). -/
def Mode.abbr : Mode → String
  | .immediate => "#"
  | .absolute => "a"
  | .absoluteLong => "al"
  | .direct => "d"
  | .accumulator => "A"
  | .implied => "i"
  | .stack => "s"
  | .directX => "d,x"
  | .directY => "d,y"
  | .absoluteX => "a,x"
  | .absoluteY => "a,y"
  | .absoluteLongX => "al,x"
  | .stackRelative => "d,s"
  | .directXIndirect => "(d,x)"
  | .directIndirectY => "(d),y"
  | .directIndirectLongY => "[d],y"
  | .stackRelativeIndirectY => "(d,s),y"
  | .directIndirect => "(d)"
  | .directIndirectLong => "[d]"
  | .relative => "r"
  | .relativeLong => "rl"
  | .absoluteIndirect => "(a)"
  | .absoluteIndexedIndirect => "(a,x)"
  | .xyc => "xyc"

/-- The modes whose operand is data in memory, with their operand bytes (R122 to R139). -/
inductive MemMode where
  /-- `a` (R122). -/
  | abs (a : Word)
  /-- `al` (R123). -/
  | long (a : Addr)
  /-- `d` (R124). -/
  | dp (o : Byte)
  /-- `d,x` (R128). -/
  | dpX (o : Byte)
  /-- `d,y` (R129). -/
  | dpY (o : Byte)
  /-- `a,x` (R130). -/
  | absX (a : Word)
  /-- `a,y` (R131). -/
  | absY (a : Word)
  /-- `al,x` (R132). -/
  | longX (a : Addr)
  /-- `d,s` (R133). -/
  | sr (o : Byte)
  /-- `(d,x)` (R134). -/
  | dpXInd (o : Byte)
  /-- `(d),y` (R135). -/
  | dpIndY (o : Byte)
  /-- `[d],y` (R136). -/
  | dpLongIndY (o : Byte)
  /-- `(d,s),y` (R137). -/
  | srIndY (o : Byte)
  /-- `(d)` (R138). -/
  | dpInd (o : Byte)
  /-- `[d]` (R139). -/
  | dpLongInd (o : Byte)
deriving DecidableEq, Repr

/-- A data operand: an immediate or the contents of memory (R121, R160, R200). -/
inductive Operand where
  | imm (v : Word)
  | mem (md : MemMode)
deriving DecidableEq, Repr

/-- The instructions. An immediate whose width M or X selects is held as a word; at width 8 its high byte is 00H
(`Instr.wellFormed`). The ignored byte of BRK, COP and WDM is kept (R277, R278, R243). The one-byte instructions stand
last: Lean's compiler numbers constructors with arguments up to 243 only. -/
inductive Instr where
  -- Group 1, accumulator and memory, with operand bytes
  /-- ADC #: 69 b1 (b2 if M = 0) (R161). -/
  | adcImm (v : Word)
  /-- ADC a: 6D b1 b2 (R161). -/
  | adcAbs (a : Word)
  /-- ADC al: 6F b1 b2 b3 (R161). -/
  | adcLong (a : Addr)
  /-- ADC d: 65 b1 (R161). -/
  | adcDp (o : Byte)
  /-- ADC d,x: 75 b1 (R161). -/
  | adcDpX (o : Byte)
  /-- ADC a,x: 7D b1 b2 (R161). -/
  | adcAbsX (a : Word)
  /-- ADC a,y: 79 b1 b2 (R161). -/
  | adcAbsY (a : Word)
  /-- ADC al,x: 7F b1 b2 b3 (R161). -/
  | adcLongX (a : Addr)
  /-- ADC d,s: 63 b1 (R161). -/
  | adcSr (o : Byte)
  /-- ADC (d,x): 61 b1 (R161). -/
  | adcDpXInd (o : Byte)
  /-- ADC (d),y: 71 b1 (R161). -/
  | adcDpIndY (o : Byte)
  /-- ADC [d],y: 77 b1 (R161). -/
  | adcDpLongIndY (o : Byte)
  /-- ADC (d,s),y: 73 b1 (R161). -/
  | adcSrIndY (o : Byte)
  /-- ADC (d): 72 b1 (R161). -/
  | adcDpInd (o : Byte)
  /-- ADC [d]: 67 b1 (R161). -/
  | adcDpLongInd (o : Byte)
  /-- AND #: 29 b1 (b2 if M = 0) (R162). -/
  | andImm (v : Word)
  /-- AND a: 2D b1 b2 (R162). -/
  | andAbs (a : Word)
  /-- AND al: 2F b1 b2 b3 (R162). -/
  | andLong (a : Addr)
  /-- AND d: 25 b1 (R162). -/
  | andDp (o : Byte)
  /-- AND d,x: 35 b1 (R162). -/
  | andDpX (o : Byte)
  /-- AND a,x: 3D b1 b2 (R162). -/
  | andAbsX (a : Word)
  /-- AND a,y: 39 b1 b2 (R162). -/
  | andAbsY (a : Word)
  /-- AND al,x: 3F b1 b2 b3 (R162). -/
  | andLongX (a : Addr)
  /-- AND d,s: 23 b1 (R162). -/
  | andSr (o : Byte)
  /-- AND (d,x): 21 b1 (R162). -/
  | andDpXInd (o : Byte)
  /-- AND (d),y: 31 b1 (R162). -/
  | andDpIndY (o : Byte)
  /-- AND [d],y: 37 b1 (R162). -/
  | andDpLongIndY (o : Byte)
  /-- AND (d,s),y: 33 b1 (R162). -/
  | andSrIndY (o : Byte)
  /-- AND (d): 32 b1 (R162). -/
  | andDpInd (o : Byte)
  /-- AND [d]: 27 b1 (R162). -/
  | andDpLongInd (o : Byte)
  /-- CMP #: C9 b1 (b2 if M = 0) (R163). -/
  | cmpImm (v : Word)
  /-- CMP a: CD b1 b2 (R163). -/
  | cmpAbs (a : Word)
  /-- CMP al: CF b1 b2 b3 (R163). -/
  | cmpLong (a : Addr)
  /-- CMP d: C5 b1 (R163). -/
  | cmpDp (o : Byte)
  /-- CMP d,x: D5 b1 (R163). -/
  | cmpDpX (o : Byte)
  /-- CMP a,x: DD b1 b2 (R163). -/
  | cmpAbsX (a : Word)
  /-- CMP a,y: D9 b1 b2 (R163). -/
  | cmpAbsY (a : Word)
  /-- CMP al,x: DF b1 b2 b3 (R163). -/
  | cmpLongX (a : Addr)
  /-- CMP d,s: C3 b1 (R163). -/
  | cmpSr (o : Byte)
  /-- CMP (d,x): C1 b1 (R163). -/
  | cmpDpXInd (o : Byte)
  /-- CMP (d),y: D1 b1 (R163). -/
  | cmpDpIndY (o : Byte)
  /-- CMP [d],y: D7 b1 (R163). -/
  | cmpDpLongIndY (o : Byte)
  /-- CMP (d,s),y: D3 b1 (R163). -/
  | cmpSrIndY (o : Byte)
  /-- CMP (d): D2 b1 (R163). -/
  | cmpDpInd (o : Byte)
  /-- CMP [d]: C7 b1 (R163). -/
  | cmpDpLongInd (o : Byte)
  /-- EOR #: 49 b1 (b2 if M = 0) (R164). -/
  | eorImm (v : Word)
  /-- EOR a: 4D b1 b2 (R164). -/
  | eorAbs (a : Word)
  /-- EOR al: 4F b1 b2 b3 (R164). -/
  | eorLong (a : Addr)
  /-- EOR d: 45 b1 (R164). -/
  | eorDp (o : Byte)
  /-- EOR d,x: 55 b1 (R164). -/
  | eorDpX (o : Byte)
  /-- EOR a,x: 5D b1 b2 (R164). -/
  | eorAbsX (a : Word)
  /-- EOR a,y: 59 b1 b2 (R164). -/
  | eorAbsY (a : Word)
  /-- EOR al,x: 5F b1 b2 b3 (R164). -/
  | eorLongX (a : Addr)
  /-- EOR d,s: 43 b1 (R164). -/
  | eorSr (o : Byte)
  /-- EOR (d,x): 41 b1 (R164). -/
  | eorDpXInd (o : Byte)
  /-- EOR (d),y: 51 b1 (R164). -/
  | eorDpIndY (o : Byte)
  /-- EOR [d],y: 57 b1 (R164). -/
  | eorDpLongIndY (o : Byte)
  /-- EOR (d,s),y: 53 b1 (R164). -/
  | eorSrIndY (o : Byte)
  /-- EOR (d): 52 b1 (R164). -/
  | eorDpInd (o : Byte)
  /-- EOR [d]: 47 b1 (R164). -/
  | eorDpLongInd (o : Byte)
  /-- LDA #: A9 b1 (b2 if M = 0) (R165). -/
  | ldaImm (v : Word)
  /-- LDA a: AD b1 b2 (R165). -/
  | ldaAbs (a : Word)
  /-- LDA al: AF b1 b2 b3 (R165). -/
  | ldaLong (a : Addr)
  /-- LDA d: A5 b1 (R165). -/
  | ldaDp (o : Byte)
  /-- LDA d,x: B5 b1 (R165). -/
  | ldaDpX (o : Byte)
  /-- LDA a,x: BD b1 b2 (R165). -/
  | ldaAbsX (a : Word)
  /-- LDA a,y: B9 b1 b2 (R165). -/
  | ldaAbsY (a : Word)
  /-- LDA al,x: BF b1 b2 b3 (R165). -/
  | ldaLongX (a : Addr)
  /-- LDA d,s: A3 b1 (R165). -/
  | ldaSr (o : Byte)
  /-- LDA (d,x): A1 b1 (R165). -/
  | ldaDpXInd (o : Byte)
  /-- LDA (d),y: B1 b1 (R165). -/
  | ldaDpIndY (o : Byte)
  /-- LDA [d],y: B7 b1 (R165). -/
  | ldaDpLongIndY (o : Byte)
  /-- LDA (d,s),y: B3 b1 (R165). -/
  | ldaSrIndY (o : Byte)
  /-- LDA (d): B2 b1 (R165). -/
  | ldaDpInd (o : Byte)
  /-- LDA [d]: A7 b1 (R165). -/
  | ldaDpLongInd (o : Byte)
  /-- ORA #: 09 b1 (b2 if M = 0) (R166). -/
  | oraImm (v : Word)
  /-- ORA a: 0D b1 b2 (R166). -/
  | oraAbs (a : Word)
  /-- ORA al: 0F b1 b2 b3 (R166). -/
  | oraLong (a : Addr)
  /-- ORA d: 05 b1 (R166). -/
  | oraDp (o : Byte)
  /-- ORA d,x: 15 b1 (R166). -/
  | oraDpX (o : Byte)
  /-- ORA a,x: 1D b1 b2 (R166). -/
  | oraAbsX (a : Word)
  /-- ORA a,y: 19 b1 b2 (R166). -/
  | oraAbsY (a : Word)
  /-- ORA al,x: 1F b1 b2 b3 (R166). -/
  | oraLongX (a : Addr)
  /-- ORA d,s: 03 b1 (R166). -/
  | oraSr (o : Byte)
  /-- ORA (d,x): 01 b1 (R166). -/
  | oraDpXInd (o : Byte)
  /-- ORA (d),y: 11 b1 (R166). -/
  | oraDpIndY (o : Byte)
  /-- ORA [d],y: 17 b1 (R166). -/
  | oraDpLongIndY (o : Byte)
  /-- ORA (d,s),y: 13 b1 (R166). -/
  | oraSrIndY (o : Byte)
  /-- ORA (d): 12 b1 (R166). -/
  | oraDpInd (o : Byte)
  /-- ORA [d]: 07 b1 (R166). -/
  | oraDpLongInd (o : Byte)
  /-- SBC #: E9 b1 (b2 if M = 0) (R167). -/
  | sbcImm (v : Word)
  /-- SBC a: ED b1 b2 (R167). -/
  | sbcAbs (a : Word)
  /-- SBC al: EF b1 b2 b3 (R167). -/
  | sbcLong (a : Addr)
  /-- SBC d: E5 b1 (R167). -/
  | sbcDp (o : Byte)
  /-- SBC d,x: F5 b1 (R167). -/
  | sbcDpX (o : Byte)
  /-- SBC a,x: FD b1 b2 (R167). -/
  | sbcAbsX (a : Word)
  /-- SBC a,y: F9 b1 b2 (R167). -/
  | sbcAbsY (a : Word)
  /-- SBC al,x: FF b1 b2 b3 (R167). -/
  | sbcLongX (a : Addr)
  /-- SBC d,s: E3 b1 (R167). -/
  | sbcSr (o : Byte)
  /-- SBC (d,x): E1 b1 (R167). -/
  | sbcDpXInd (o : Byte)
  /-- SBC (d),y: F1 b1 (R167). -/
  | sbcDpIndY (o : Byte)
  /-- SBC [d],y: F7 b1 (R167). -/
  | sbcDpLongIndY (o : Byte)
  /-- SBC (d,s),y: F3 b1 (R167). -/
  | sbcSrIndY (o : Byte)
  /-- SBC (d): F2 b1 (R167). -/
  | sbcDpInd (o : Byte)
  /-- SBC [d]: E7 b1 (R167). -/
  | sbcDpLongInd (o : Byte)
  /-- STA a: 8D b1 b2 (R168). -/
  | staAbs (a : Word)
  /-- STA al: 8F b1 b2 b3 (R168). -/
  | staLong (a : Addr)
  /-- STA d: 85 b1 (R168). -/
  | staDp (o : Byte)
  /-- STA d,x: 95 b1 (R168). -/
  | staDpX (o : Byte)
  /-- STA a,x: 9D b1 b2 (R168). -/
  | staAbsX (a : Word)
  /-- STA a,y: 99 b1 b2 (R168). -/
  | staAbsY (a : Word)
  /-- STA al,x: 9F b1 b2 b3 (R168). -/
  | staLongX (a : Addr)
  /-- STA d,s: 83 b1 (R168). -/
  | staSr (o : Byte)
  /-- STA (d,x): 81 b1 (R168). -/
  | staDpXInd (o : Byte)
  /-- STA (d),y: 91 b1 (R168). -/
  | staDpIndY (o : Byte)
  /-- STA [d],y: 97 b1 (R168). -/
  | staDpLongIndY (o : Byte)
  /-- STA (d,s),y: 93 b1 (R168). -/
  | staSrIndY (o : Byte)
  /-- STA (d): 92 b1 (R168). -/
  | staDpInd (o : Byte)
  /-- STA [d]: 87 b1 (R168). -/
  | staDpLongInd (o : Byte)
  -- Group 2, bit test, shifts, counts, status bits, with operand bytes
  /-- BIT #: 89 b1 (b2 if M = 0) (R181). -/
  | bitImm (v : Word)
  /-- BIT a: 2C b1 b2 (R181). -/
  | bitAbs (a : Word)
  /-- BIT d: 24 b1 (R181). -/
  | bitDp (o : Byte)
  /-- BIT d,x: 34 b1 (R181). -/
  | bitDpX (o : Byte)
  /-- BIT a,x: 3C b1 b2 (R181). -/
  | bitAbsX (a : Word)
  /-- ROR a: 6E b1 b2 (R182). -/
  | rorAbs (a : Word)
  /-- ROR d: 66 b1 (R182). -/
  | rorDp (o : Byte)
  /-- ROR d,x: 76 b1 (R182). -/
  | rorDpX (o : Byte)
  /-- ROR a,x: 7E b1 b2 (R182). -/
  | rorAbsX (a : Word)
  /-- ASL a: 0E b1 b2 (R183). -/
  | aslAbs (a : Word)
  /-- ASL d: 06 b1 (R183). -/
  | aslDp (o : Byte)
  /-- ASL d,x: 16 b1 (R183). -/
  | aslDpX (o : Byte)
  /-- ASL a,x: 1E b1 b2 (R183). -/
  | aslAbsX (a : Word)
  /-- LSR a: 4E b1 b2 (R184). -/
  | lsrAbs (a : Word)
  /-- LSR d: 46 b1 (R184). -/
  | lsrDp (o : Byte)
  /-- LSR d,x: 56 b1 (R184). -/
  | lsrDpX (o : Byte)
  /-- LSR a,x: 5E b1 b2 (R184). -/
  | lsrAbsX (a : Word)
  /-- ROL a: 2E b1 b2 (R185). -/
  | rolAbs (a : Word)
  /-- ROL d: 26 b1 (R185). -/
  | rolDp (o : Byte)
  /-- ROL d,x: 36 b1 (R185). -/
  | rolDpX (o : Byte)
  /-- ROL a,x: 3E b1 b2 (R185). -/
  | rolAbsX (a : Word)
  /-- INC a: EE b1 b2 (R186). -/
  | incAbs (a : Word)
  /-- INC d: E6 b1 (R186). -/
  | incDp (o : Byte)
  /-- INC d,x: F6 b1 (R186). -/
  | incDpX (o : Byte)
  /-- INC a,x: FE b1 b2 (R186). -/
  | incAbsX (a : Word)
  /-- DEC a: CE b1 b2 (R187). -/
  | decAbs (a : Word)
  /-- DEC d: C6 b1 (R187). -/
  | decDp (o : Byte)
  /-- DEC d,x: D6 b1 (R187). -/
  | decDpX (o : Byte)
  /-- DEC a,x: DE b1 b2 (R187). -/
  | decAbsX (a : Word)
  /-- REP #: C2 b1 (R188). -/
  | rep (imm : Byte)
  /-- SEP #: E2 b1 (R189). -/
  | sep (imm : Byte)
  /-- TRB a: 1C b1 b2 (R190). -/
  | trbAbs (a : Word)
  /-- TRB d: 14 b1 (R190). -/
  | trbDp (o : Byte)
  /-- TSB a: 0C b1 b2 (R191). -/
  | tsbAbs (a : Word)
  /-- TSB d: 04 b1 (R191). -/
  | tsbDp (o : Byte)
  -- Group 3, index registers and memory, with operand bytes
  /-- LDX #: A2 b1 (b2 if X = 0) (R201). -/
  | ldxImm (v : Word)
  /-- LDX a: AE b1 b2 (R201). -/
  | ldxAbs (a : Word)
  /-- LDX d: A6 b1 (R201). -/
  | ldxDp (o : Byte)
  /-- LDX d,y: B6 b1 (R201). -/
  | ldxDpY (o : Byte)
  /-- LDX a,y: BE b1 b2 (R201). -/
  | ldxAbsY (a : Word)
  /-- LDY #: A0 b1 (b2 if X = 0) (R202). -/
  | ldyImm (v : Word)
  /-- LDY a: AC b1 b2 (R202). -/
  | ldyAbs (a : Word)
  /-- LDY d: A4 b1 (R202). -/
  | ldyDp (o : Byte)
  /-- LDY d,x: B4 b1 (R202). -/
  | ldyDpX (o : Byte)
  /-- LDY a,x: BC b1 b2 (R202). -/
  | ldyAbsX (a : Word)
  /-- CPX #: E0 b1 (b2 if X = 0) (R203). -/
  | cpxImm (v : Word)
  /-- CPX a: EC b1 b2 (R203). -/
  | cpxAbs (a : Word)
  /-- CPX d: E4 b1 (R203). -/
  | cpxDp (o : Byte)
  /-- CPY #: C0 b1 (b2 if X = 0) (R204). -/
  | cpyImm (v : Word)
  /-- CPY a: CC b1 b2 (R204). -/
  | cpyAbs (a : Word)
  /-- CPY d: C4 b1 (R204). -/
  | cpyDp (o : Byte)
  /-- STX a: 8E b1 b2 (R205). -/
  | stxAbs (a : Word)
  /-- STX d: 86 b1 (R205). -/
  | stxDp (o : Byte)
  /-- STX d,y: 96 b1 (R205). -/
  | stxDpY (o : Byte)
  /-- STY a: 8C b1 b2 (R206). -/
  | styAbs (a : Word)
  /-- STY d: 84 b1 (R206). -/
  | styDp (o : Byte)
  /-- STY d,x: 94 b1 (R206). -/
  | styDpX (o : Byte)
  /-- STZ a: 9C b1 b2 (R207). -/
  | stzAbs (a : Word)
  /-- STZ d: 64 b1 (R207). -/
  | stzDp (o : Byte)
  /-- STZ d,x: 74 b1 (R207). -/
  | stzDpX (o : Byte)
  /-- STZ a,x: 9E b1 b2 (R207). -/
  | stzAbsX (a : Word)
  -- Group 4, implied, with operand bytes
  /-- WDM: 42 b1 (R243). -/
  | wdm (sig : Byte)
  -- Group 5, stack, with operand bytes
  /-- PEA: F4 b1 b2 (R274). -/
  | pea (a : Word)
  /-- PEI: D4 b1 (R275). -/
  | pei (o : Byte)
  /-- PER: 62 b1 b2 (R276). -/
  | per (off : Word)
  /-- BRK: 00 b1 (R277). -/
  | brk (sig : Byte)
  /-- COP: 02 b1 (R278). -/
  | cop (sig : Byte)
  -- Group 6, relative branches, with operand bytes
  /-- BCC r: 90 b1 (R301). -/
  | bcc (off : Byte)
  /-- BCS r: B0 b1 (R302). -/
  | bcs (off : Byte)
  /-- BEQ r: F0 b1 (R303). -/
  | beq (off : Byte)
  /-- BMI r: 30 b1 (R304). -/
  | bmi (off : Byte)
  /-- BNE r: D0 b1 (R305). -/
  | bne (off : Byte)
  /-- BPL r: 10 b1 (R306). -/
  | bpl (off : Byte)
  /-- BRA r: 80 b1 (R307). -/
  | bra (off : Byte)
  /-- BRL rl: 82 b1 b2 (R308). -/
  | brl (off : Word)
  /-- BVC r: 50 b1 (R309). -/
  | bvc (off : Byte)
  /-- BVS r: 70 b1 (R310). -/
  | bvs (off : Byte)
  -- Group 7, jumps and calls, with operand bytes
  /-- JML (a): DC b1 b2 (R321). -/
  | jml (a : Word)
  /-- JMP a: 4C b1 b2 (R322). -/
  | jmpAbs (a : Word)
  /-- JMP al: 5C b1 b2 b3 (R322). -/
  | jmpLong (a : Addr)
  /-- JMP (a): 6C b1 b2 (R322). -/
  | jmpAbsInd (a : Word)
  /-- JMP (a,x): 7C b1 b2 (R322). -/
  | jmpAbsXInd (a : Word)
  /-- JSL al: 22 b1 b2 b3 (R323). -/
  | jsl (a : Addr)
  /-- JSR a: 20 b1 b2 (R324). -/
  | jsrAbs (a : Word)
  /-- JSR (a,x): FC b1 b2 (R324). -/
  | jsrAbsXInd (a : Word)
  -- Group 8, block moves, with operand bytes
  /-- MVN xyc: 54 b1 b2 (R341). -/
  | mvn (dst : Byte) (src : Byte)
  /-- MVP xyc: 44 b1 b2 (R342). -/
  | mvp (dst : Byte) (src : Byte)
  -- Group 2, bit test, shifts, counts, status bits, opcode only
  /-- ROR A: 6A (R182). -/
  | rorAcc
  /-- ASL A: 0A (R183). -/
  | aslAcc
  /-- LSR A: 4A (R184). -/
  | lsrAcc
  /-- ROL A: 2A (R185). -/
  | rolAcc
  /-- INC A: 1A (R186). -/
  | incAcc
  /-- DEC A: 3A (R187). -/
  | decAcc
  -- Group 4, implied, opcode only
  /-- INX: E8 (R216). -/
  | inx
  /-- INY: C8 (R217). -/
  | iny
  /-- DEX: CA (R218). -/
  | dex
  /-- DEY: 88 (R219). -/
  | dey
  /-- TAX: AA (R220). -/
  | tax
  /-- TAY: A8 (R221). -/
  | tay
  /-- TSX: BA (R222). -/
  | tsx
  /-- TXA: 8A (R223). -/
  | txa
  /-- TXS: 9A (R224). -/
  | txs
  /-- TXY: 9B (R225). -/
  | txy
  /-- TYA: 98 (R226). -/
  | tya
  /-- TYX: BB (R227). -/
  | tyx
  /-- CLC: 18 (R228). -/
  | clc
  /-- CLD: D8 (R229). -/
  | cld
  /-- CLI: 58 (R230). -/
  | cli
  /-- CLV: B8 (R231). -/
  | clv
  /-- SEC: 38 (R232). -/
  | sec
  /-- SED: F8 (R233). -/
  | sed
  /-- SEI: 78 (R234). -/
  | sei
  /-- TCD: 5B (R235). -/
  | tcd
  /-- TCS: 1B (R236). -/
  | tcs
  /-- TDC: 7B (R237). -/
  | tdc
  /-- TSC: 3B (R238). -/
  | tsc
  /-- XBA: EB (R239). -/
  | xba
  /-- XCE: FB (R240). -/
  | xce
  /-- STP: DB (R241). -/
  | stp
  /-- WAI: CB (R242). -/
  | wai
  /-- NOP: EA (R244). -/
  | nop
  -- Group 5, stack, opcode only
  /-- PHA: 48 (R261). -/
  | pha
  /-- PHB: 8B (R262). -/
  | phb
  /-- PHD: 0B (R263). -/
  | phd
  /-- PHK: 4B (R264). -/
  | phk
  /-- PHP: 08 (R265). -/
  | php
  /-- PHX: DA (R266). -/
  | phx
  /-- PHY: 5A (R267). -/
  | phy
  /-- PLA: 68 (R268). -/
  | pla
  /-- PLB: AB (R269). -/
  | plb
  /-- PLD: 2B (R270). -/
  | pld
  /-- PLP: 28 (R271). -/
  | plp
  /-- PLX: FA (R272). -/
  | plx
  /-- PLY: 7A (R273). -/
  | ply
  /-- RTI: 40 (R279). -/
  | rti
  /-- RTL: 6B (R280). -/
  | rtl
  /-- RTS: 60 (R281). -/
  | rts
deriving DecidableEq, Repr

end Sys2Proof
end

