-- ==== Sys2Proof/Machine/Operands.lean ====
section
/-! DEFINITION. The addressing modes that reach data (R121 to R139, R145, R150) and the data operand of an
instruction (R160, R180, R200). -/

namespace Sys2Proof.Machine

/-- The length of an instruction with a memory operand (R91, R120). -/
def memLen : MemMode → Nat
  | .abs _ | .absX _ | .absY _ => 3
  | .long _ | .longX _ => 4
  | .dp _ | .dpX _ | .dpY _ | .sr _ | .dpXInd _ | .dpIndY _ | .dpLongIndY _ | .srIndY _ | .dpInd _ | .dpLongInd _ => 2

/-- The length of an instruction with a data operand: an immediate adds the bytes of its width (R93). -/
def operandLen (w : Width) : Operand → Nat
  | .imm _ => 1 + w.bytes
  | .mem md => memLen md

/-- `dp(o) = (D + o) mod 2^16` (R145). -/
def Regs.dp (o : Byte) (r : Regs) : Word := r.dr + zext o

/-- EMU_PAGE_WRAP = page is in force: E = 1 and DL = 00H (R150). -/
def State.pageWraps (s : State) : Bool :=
  decide (s.params.emuPageWrap = .page) && s.regs.e && decide (lo s.regs.dr = 0x00#8)

/-- `(D + offset8 + index) mod 2^16` (R128, R129, R134), inside the direct page where the wrap is in force (R150). -/
def State.directIndexed (o : Byte) (index : Word) (s : State) : Word :=
  if s.pageWraps then word (hi s.regs.dr) (o + lo index) else s.regs.dr + zext o + index

/-- The access to a 2-byte pointer of `(d)`, `(d),y`, `(d,x)`: bank 00, inside the page where the wrap is in force
(R66, R150). -/
def State.pointerEA (a : Word) (s : State) : EA := if s.pageWraps then .page a else EA.b0 a

/-- `DBR:a` (R122). -/
def Regs.dataAddr (a : Word) (r : Regs) : Addr := bankAddr r.dbr a

/-- The effective address of a mode, and the state after its pointer is read (R122 to R139). -/
def effAddr (md : MemMode) (s : State) : EA × State :=
  let r := s.regs
  match md with
  | .abs a => (.lin (r.dataAddr a), s)
  | .long a => (.lin a, s)
  | .dp o => (EA.b0 (r.dp o), s)
  | .dpX o => (EA.b0 (s.directIndexed o r.x), s)
  | .dpY o => (EA.b0 (s.directIndexed o r.y), s)
  | .absX a => (.lin (r.dataAddr a + zextAddr r.x), s)
  | .absY a => (.lin (r.dataAddr a + zextAddr r.y), s)
  | .longX a => (.lin (a + zextAddr r.x), s)
  | .sr o => (EA.b0 (r.sp + zext o), s)
  | .dpXInd o =>
    let p := read16 (s.pointerEA (s.directIndexed o r.x)) s
    (.lin (r.dataAddr p.1), p.2)
  | .dpIndY o =>
    let p := read16 (s.pointerEA (r.dp o)) s
    (.lin (r.dataAddr p.1 + zextAddr r.y), p.2)
  | .dpLongIndY o =>
    let p := read24 (EA.b0 (r.dp o)) s
    (.lin (p.1 + zextAddr r.y), p.2)
  | .srIndY o =>
    let p := read16 (EA.b0 (r.sp + zext o)) s
    (.lin (r.dataAddr p.1 + zextAddr r.y), p.2)
  | .dpInd o =>
    let p := read16 (s.pointerEA (r.dp o)) s
    (.lin (r.dataAddr p.1), p.2)
  | .dpLongInd o =>
    let p := read24 (EA.b0 (r.dp o)) s
    (.lin p.1, p.2)

/-- The memory operand of a mode at a width: the effective address, then `LoadEA` (R160). -/
def loadMem (md : MemMode) (w : Width) (s : State) : Word × State :=
  let ea := effAddr md s
  loadEA ea.1 w ea.2

/-- The data operand at a width (R160, R200); an immediate is the value of that width (R121). -/
def loadOperand (o : Operand) (w : Width) (s : State) : Word × State :=
  match o with
  | .imm v => (w.trunc v, s)
  | .mem md => loadMem md w s

/-- The store of STA, STX, STY, STZ: the effective address, then `StoreEA` (R168, R205 to R207). -/
def storeMem (md : MemMode) (w : Width) (v : Word) (s : State) : State :=
  let ea := effAddr md s
  storeEA ea.1 w v ea.2

end Sys2Proof.Machine
end

