-- ==== Sys2Proof/Machine/AccMem.lean ====
section
/-! DEFINITION. Group 1, accumulator and memory: ADC AND CMP EOR LDA ORA SBC STA (R160 to R169). -/

namespace Sys2Proof.Machine

/-- `V`, `Z`, `C` and `N` of an addition or subtraction (R161, R167). -/
def Regs.setSum (w : Width) (r : Sum) (g : Regs) : Regs :=
  let g' := (g.setAcc r.value).setNZ w r.value
  { g' with p := { g'.p with v := r.overflow, c := r.carry } }

/-- A decimal result on valid operands: N, Z and C from it, V any (R169). -/
def decimalResult (w : Width) (r : Word × Bool) (s : State) : State :=
  let v := drawBit s
  v.2.onRegs (Regs.setSum w { value := r.1, carry := r.2, overflow := v.1 })

/-- Decimal arithmetic on an operand that is not BCD: Acc, N, V, Z, C any (R169). -/
def decimalInvalid (s : State) : State :=
  let a := drawWord s
  let n := drawBit a.2
  let v := drawBit n.2
  let z := drawBit v.2
  let c := drawBit z.2
  c.2.onRegs fun g =>
    let g' := g.setAcc a.1
    { g' with p := { g'.p with n := n.1, v := v.1, z := z.1, c := c.1 } }

/-- ADC once the operand is read (R161, R169). -/
def addToAcc (w : Width) (m : Word) (s : State) : State :=
  let a := s.regs.acc
  let c := s.regs.p.c
  if s.regs.p.d then
    if decimalOperands w a m then decimalResult w (addDecimal w a m c) s else decimalInvalid s
  else s.onRegs (Regs.setSum w (addBinary w a m c))

/-- SBC once the operand is read (R167, R169). -/
def subFromAcc (w : Width) (m : Word) (s : State) : State :=
  let a := s.regs.acc
  let c := s.regs.p.c
  if s.regs.p.d then
    if decimalOperands w a m then decimalResult w (subDecimal w a m c) s else decimalInvalid s
  else s.onRegs (Regs.setSum w (subBinary w a m c))

/-- Put a result in the accumulator with its N and Z (R162, R164 to R166). -/
def Regs.resultAcc (v : Word) (g : Regs) : Regs := (g.setAcc v).setNZ g.wA v

/-- Read the data operand at the accumulator's width, do `f` with it, go on to the next instruction (R160). -/
def withAccOperand (f : Width → Word → State → State) (o : Operand) (s : State) : State :=
  let w := s.regs.wA
  let m := loadOperand o w s
  (f w m.1 m.2).onRegs (Regs.advance (operandLen w o))

/-- ADC (R161). -/
def adcOp (o : Operand) (s : State) : State := withAccOperand addToAcc o s

/-- AND (R162). -/
def andOp (o : Operand) (s : State) : State :=
  withAccOperand (fun _ m t => t.onRegs fun g => g.resultAcc (g.acc &&& m)) o s

/-- CMP (R163). -/
def cmpOp (o : Operand) (s : State) : State :=
  withAccOperand (fun w m t => t.onRegs fun g => { g with p := g.p.compare w g.acc m }) o s

/-- EOR (R164). -/
def eorOp (o : Operand) (s : State) : State :=
  withAccOperand (fun _ m t => t.onRegs fun g => g.resultAcc (g.acc ^^^ m)) o s

/-- LDA (R165). -/
def ldaOp (o : Operand) (s : State) : State := withAccOperand (fun _ m t => t.onRegs (Regs.resultAcc m)) o s

/-- ORA (R166). -/
def oraOp (o : Operand) (s : State) : State :=
  withAccOperand (fun _ m t => t.onRegs fun g => g.resultAcc (g.acc ||| m)) o s

/-- SBC (R167). -/
def sbcOp (o : Operand) (s : State) : State := withAccOperand subFromAcc o s

/-- STA (R168). -/
def staOp (md : MemMode) (s : State) : State :=
  (storeMem md s.regs.wA s.regs.acc s).onRegs (Regs.advance (memLen md))

/-! ADC (R161) -/
/-- `ADC #`, opcode 69 (R161, R121). -/
def execAdcImm (v : Word) (s : State) : Result := .next (adcOp (.imm v) s)
/-- `ADC a`, opcode 6D (R161, R122). -/
def execAdcAbs (a : Word) (s : State) : Result := .next (adcOp (.mem (.abs a)) s)
/-- `ADC al`, opcode 6F (R161, R123). -/
def execAdcLong (a : Addr) (s : State) : Result := .next (adcOp (.mem (.long a)) s)
/-- `ADC d`, opcode 65 (R161, R124). -/
def execAdcDp (o : Byte) (s : State) : Result := .next (adcOp (.mem (.dp o)) s)
/-- `ADC d,x`, opcode 75 (R161, R128). -/
def execAdcDpX (o : Byte) (s : State) : Result := .next (adcOp (.mem (.dpX o)) s)
/-- `ADC a,x`, opcode 7D (R161, R130). -/
def execAdcAbsX (a : Word) (s : State) : Result := .next (adcOp (.mem (.absX a)) s)
/-- `ADC a,y`, opcode 79 (R161, R131). -/
def execAdcAbsY (a : Word) (s : State) : Result := .next (adcOp (.mem (.absY a)) s)
/-- `ADC al,x`, opcode 7F (R161, R132). -/
def execAdcLongX (a : Addr) (s : State) : Result := .next (adcOp (.mem (.longX a)) s)
/-- `ADC d,s`, opcode 63 (R161, R133). -/
def execAdcSr (o : Byte) (s : State) : Result := .next (adcOp (.mem (.sr o)) s)
/-- `ADC (d,x)`, opcode 61 (R161, R134). -/
def execAdcDpXInd (o : Byte) (s : State) : Result := .next (adcOp (.mem (.dpXInd o)) s)
/-- `ADC (d),y`, opcode 71 (R161, R135). -/
def execAdcDpIndY (o : Byte) (s : State) : Result := .next (adcOp (.mem (.dpIndY o)) s)
/-- `ADC [d],y`, opcode 77 (R161, R136). -/
def execAdcDpLongIndY (o : Byte) (s : State) : Result := .next (adcOp (.mem (.dpLongIndY o)) s)
/-- `ADC (d,s),y`, opcode 73 (R161, R137). -/
def execAdcSrIndY (o : Byte) (s : State) : Result := .next (adcOp (.mem (.srIndY o)) s)
/-- `ADC (d)`, opcode 72 (R161, R138). -/
def execAdcDpInd (o : Byte) (s : State) : Result := .next (adcOp (.mem (.dpInd o)) s)
/-- `ADC [d]`, opcode 67 (R161, R139). -/
def execAdcDpLongInd (o : Byte) (s : State) : Result := .next (adcOp (.mem (.dpLongInd o)) s)

/-! AND (R162) -/
/-- `AND #`, opcode 29 (R162, R121). -/
def execAndImm (v : Word) (s : State) : Result := .next (andOp (.imm v) s)
/-- `AND a`, opcode 2D (R162, R122). -/
def execAndAbs (a : Word) (s : State) : Result := .next (andOp (.mem (.abs a)) s)
/-- `AND al`, opcode 2F (R162, R123). -/
def execAndLong (a : Addr) (s : State) : Result := .next (andOp (.mem (.long a)) s)
/-- `AND d`, opcode 25 (R162, R124). -/
def execAndDp (o : Byte) (s : State) : Result := .next (andOp (.mem (.dp o)) s)
/-- `AND d,x`, opcode 35 (R162, R128). -/
def execAndDpX (o : Byte) (s : State) : Result := .next (andOp (.mem (.dpX o)) s)
/-- `AND a,x`, opcode 3D (R162, R130). -/
def execAndAbsX (a : Word) (s : State) : Result := .next (andOp (.mem (.absX a)) s)
/-- `AND a,y`, opcode 39 (R162, R131). -/
def execAndAbsY (a : Word) (s : State) : Result := .next (andOp (.mem (.absY a)) s)
/-- `AND al,x`, opcode 3F (R162, R132). -/
def execAndLongX (a : Addr) (s : State) : Result := .next (andOp (.mem (.longX a)) s)
/-- `AND d,s`, opcode 23 (R162, R133). -/
def execAndSr (o : Byte) (s : State) : Result := .next (andOp (.mem (.sr o)) s)
/-- `AND (d,x)`, opcode 21 (R162, R134). -/
def execAndDpXInd (o : Byte) (s : State) : Result := .next (andOp (.mem (.dpXInd o)) s)
/-- `AND (d),y`, opcode 31 (R162, R135). -/
def execAndDpIndY (o : Byte) (s : State) : Result := .next (andOp (.mem (.dpIndY o)) s)
/-- `AND [d],y`, opcode 37 (R162, R136). -/
def execAndDpLongIndY (o : Byte) (s : State) : Result := .next (andOp (.mem (.dpLongIndY o)) s)
/-- `AND (d,s),y`, opcode 33 (R162, R137). -/
def execAndSrIndY (o : Byte) (s : State) : Result := .next (andOp (.mem (.srIndY o)) s)
/-- `AND (d)`, opcode 32 (R162, R138). -/
def execAndDpInd (o : Byte) (s : State) : Result := .next (andOp (.mem (.dpInd o)) s)
/-- `AND [d]`, opcode 27 (R162, R139). -/
def execAndDpLongInd (o : Byte) (s : State) : Result := .next (andOp (.mem (.dpLongInd o)) s)

/-! CMP (R163) -/
/-- `CMP #`, opcode C9 (R163, R121). -/
def execCmpImm (v : Word) (s : State) : Result := .next (cmpOp (.imm v) s)
/-- `CMP a`, opcode CD (R163, R122). -/
def execCmpAbs (a : Word) (s : State) : Result := .next (cmpOp (.mem (.abs a)) s)
/-- `CMP al`, opcode CF (R163, R123). -/
def execCmpLong (a : Addr) (s : State) : Result := .next (cmpOp (.mem (.long a)) s)
/-- `CMP d`, opcode C5 (R163, R124). -/
def execCmpDp (o : Byte) (s : State) : Result := .next (cmpOp (.mem (.dp o)) s)
/-- `CMP d,x`, opcode D5 (R163, R128). -/
def execCmpDpX (o : Byte) (s : State) : Result := .next (cmpOp (.mem (.dpX o)) s)
/-- `CMP a,x`, opcode DD (R163, R130). -/
def execCmpAbsX (a : Word) (s : State) : Result := .next (cmpOp (.mem (.absX a)) s)
/-- `CMP a,y`, opcode D9 (R163, R131). -/
def execCmpAbsY (a : Word) (s : State) : Result := .next (cmpOp (.mem (.absY a)) s)
/-- `CMP al,x`, opcode DF (R163, R132). -/
def execCmpLongX (a : Addr) (s : State) : Result := .next (cmpOp (.mem (.longX a)) s)
/-- `CMP d,s`, opcode C3 (R163, R133). -/
def execCmpSr (o : Byte) (s : State) : Result := .next (cmpOp (.mem (.sr o)) s)
/-- `CMP (d,x)`, opcode C1 (R163, R134). -/
def execCmpDpXInd (o : Byte) (s : State) : Result := .next (cmpOp (.mem (.dpXInd o)) s)
/-- `CMP (d),y`, opcode D1 (R163, R135). -/
def execCmpDpIndY (o : Byte) (s : State) : Result := .next (cmpOp (.mem (.dpIndY o)) s)
/-- `CMP [d],y`, opcode D7 (R163, R136). -/
def execCmpDpLongIndY (o : Byte) (s : State) : Result := .next (cmpOp (.mem (.dpLongIndY o)) s)
/-- `CMP (d,s),y`, opcode D3 (R163, R137). -/
def execCmpSrIndY (o : Byte) (s : State) : Result := .next (cmpOp (.mem (.srIndY o)) s)
/-- `CMP (d)`, opcode D2 (R163, R138). -/
def execCmpDpInd (o : Byte) (s : State) : Result := .next (cmpOp (.mem (.dpInd o)) s)
/-- `CMP [d]`, opcode C7 (R163, R139). -/
def execCmpDpLongInd (o : Byte) (s : State) : Result := .next (cmpOp (.mem (.dpLongInd o)) s)

/-! EOR (R164) -/
/-- `EOR #`, opcode 49 (R164, R121). -/
def execEorImm (v : Word) (s : State) : Result := .next (eorOp (.imm v) s)
/-- `EOR a`, opcode 4D (R164, R122). -/
def execEorAbs (a : Word) (s : State) : Result := .next (eorOp (.mem (.abs a)) s)
/-- `EOR al`, opcode 4F (R164, R123). -/
def execEorLong (a : Addr) (s : State) : Result := .next (eorOp (.mem (.long a)) s)
/-- `EOR d`, opcode 45 (R164, R124). -/
def execEorDp (o : Byte) (s : State) : Result := .next (eorOp (.mem (.dp o)) s)
/-- `EOR d,x`, opcode 55 (R164, R128). -/
def execEorDpX (o : Byte) (s : State) : Result := .next (eorOp (.mem (.dpX o)) s)
/-- `EOR a,x`, opcode 5D (R164, R130). -/
def execEorAbsX (a : Word) (s : State) : Result := .next (eorOp (.mem (.absX a)) s)
/-- `EOR a,y`, opcode 59 (R164, R131). -/
def execEorAbsY (a : Word) (s : State) : Result := .next (eorOp (.mem (.absY a)) s)
/-- `EOR al,x`, opcode 5F (R164, R132). -/
def execEorLongX (a : Addr) (s : State) : Result := .next (eorOp (.mem (.longX a)) s)
/-- `EOR d,s`, opcode 43 (R164, R133). -/
def execEorSr (o : Byte) (s : State) : Result := .next (eorOp (.mem (.sr o)) s)
/-- `EOR (d,x)`, opcode 41 (R164, R134). -/
def execEorDpXInd (o : Byte) (s : State) : Result := .next (eorOp (.mem (.dpXInd o)) s)
/-- `EOR (d),y`, opcode 51 (R164, R135). -/
def execEorDpIndY (o : Byte) (s : State) : Result := .next (eorOp (.mem (.dpIndY o)) s)
/-- `EOR [d],y`, opcode 57 (R164, R136). -/
def execEorDpLongIndY (o : Byte) (s : State) : Result := .next (eorOp (.mem (.dpLongIndY o)) s)
/-- `EOR (d,s),y`, opcode 53 (R164, R137). -/
def execEorSrIndY (o : Byte) (s : State) : Result := .next (eorOp (.mem (.srIndY o)) s)
/-- `EOR (d)`, opcode 52 (R164, R138). -/
def execEorDpInd (o : Byte) (s : State) : Result := .next (eorOp (.mem (.dpInd o)) s)
/-- `EOR [d]`, opcode 47 (R164, R139). -/
def execEorDpLongInd (o : Byte) (s : State) : Result := .next (eorOp (.mem (.dpLongInd o)) s)

/-! LDA (R165) -/
/-- `LDA #`, opcode A9 (R165, R121). -/
def execLdaImm (v : Word) (s : State) : Result := .next (ldaOp (.imm v) s)
/-- `LDA a`, opcode AD (R165, R122). -/
def execLdaAbs (a : Word) (s : State) : Result := .next (ldaOp (.mem (.abs a)) s)
/-- `LDA al`, opcode AF (R165, R123). -/
def execLdaLong (a : Addr) (s : State) : Result := .next (ldaOp (.mem (.long a)) s)
/-- `LDA d`, opcode A5 (R165, R124). -/
def execLdaDp (o : Byte) (s : State) : Result := .next (ldaOp (.mem (.dp o)) s)
/-- `LDA d,x`, opcode B5 (R165, R128). -/
def execLdaDpX (o : Byte) (s : State) : Result := .next (ldaOp (.mem (.dpX o)) s)
/-- `LDA a,x`, opcode BD (R165, R130). -/
def execLdaAbsX (a : Word) (s : State) : Result := .next (ldaOp (.mem (.absX a)) s)
/-- `LDA a,y`, opcode B9 (R165, R131). -/
def execLdaAbsY (a : Word) (s : State) : Result := .next (ldaOp (.mem (.absY a)) s)
/-- `LDA al,x`, opcode BF (R165, R132). -/
def execLdaLongX (a : Addr) (s : State) : Result := .next (ldaOp (.mem (.longX a)) s)
/-- `LDA d,s`, opcode A3 (R165, R133). -/
def execLdaSr (o : Byte) (s : State) : Result := .next (ldaOp (.mem (.sr o)) s)
/-- `LDA (d,x)`, opcode A1 (R165, R134). -/
def execLdaDpXInd (o : Byte) (s : State) : Result := .next (ldaOp (.mem (.dpXInd o)) s)
/-- `LDA (d),y`, opcode B1 (R165, R135). -/
def execLdaDpIndY (o : Byte) (s : State) : Result := .next (ldaOp (.mem (.dpIndY o)) s)
/-- `LDA [d],y`, opcode B7 (R165, R136). -/
def execLdaDpLongIndY (o : Byte) (s : State) : Result := .next (ldaOp (.mem (.dpLongIndY o)) s)
/-- `LDA (d,s),y`, opcode B3 (R165, R137). -/
def execLdaSrIndY (o : Byte) (s : State) : Result := .next (ldaOp (.mem (.srIndY o)) s)
/-- `LDA (d)`, opcode B2 (R165, R138). -/
def execLdaDpInd (o : Byte) (s : State) : Result := .next (ldaOp (.mem (.dpInd o)) s)
/-- `LDA [d]`, opcode A7 (R165, R139). -/
def execLdaDpLongInd (o : Byte) (s : State) : Result := .next (ldaOp (.mem (.dpLongInd o)) s)

/-! ORA (R166) -/
/-- `ORA #`, opcode 09 (R166, R121). -/
def execOraImm (v : Word) (s : State) : Result := .next (oraOp (.imm v) s)
/-- `ORA a`, opcode 0D (R166, R122). -/
def execOraAbs (a : Word) (s : State) : Result := .next (oraOp (.mem (.abs a)) s)
/-- `ORA al`, opcode 0F (R166, R123). -/
def execOraLong (a : Addr) (s : State) : Result := .next (oraOp (.mem (.long a)) s)
/-- `ORA d`, opcode 05 (R166, R124). -/
def execOraDp (o : Byte) (s : State) : Result := .next (oraOp (.mem (.dp o)) s)
/-- `ORA d,x`, opcode 15 (R166, R128). -/
def execOraDpX (o : Byte) (s : State) : Result := .next (oraOp (.mem (.dpX o)) s)
/-- `ORA a,x`, opcode 1D (R166, R130). -/
def execOraAbsX (a : Word) (s : State) : Result := .next (oraOp (.mem (.absX a)) s)
/-- `ORA a,y`, opcode 19 (R166, R131). -/
def execOraAbsY (a : Word) (s : State) : Result := .next (oraOp (.mem (.absY a)) s)
/-- `ORA al,x`, opcode 1F (R166, R132). -/
def execOraLongX (a : Addr) (s : State) : Result := .next (oraOp (.mem (.longX a)) s)
/-- `ORA d,s`, opcode 03 (R166, R133). -/
def execOraSr (o : Byte) (s : State) : Result := .next (oraOp (.mem (.sr o)) s)
/-- `ORA (d,x)`, opcode 01 (R166, R134). -/
def execOraDpXInd (o : Byte) (s : State) : Result := .next (oraOp (.mem (.dpXInd o)) s)
/-- `ORA (d),y`, opcode 11 (R166, R135). -/
def execOraDpIndY (o : Byte) (s : State) : Result := .next (oraOp (.mem (.dpIndY o)) s)
/-- `ORA [d],y`, opcode 17 (R166, R136). -/
def execOraDpLongIndY (o : Byte) (s : State) : Result := .next (oraOp (.mem (.dpLongIndY o)) s)
/-- `ORA (d,s),y`, opcode 13 (R166, R137). -/
def execOraSrIndY (o : Byte) (s : State) : Result := .next (oraOp (.mem (.srIndY o)) s)
/-- `ORA (d)`, opcode 12 (R166, R138). -/
def execOraDpInd (o : Byte) (s : State) : Result := .next (oraOp (.mem (.dpInd o)) s)
/-- `ORA [d]`, opcode 07 (R166, R139). -/
def execOraDpLongInd (o : Byte) (s : State) : Result := .next (oraOp (.mem (.dpLongInd o)) s)

/-! SBC (R167) -/
/-- `SBC #`, opcode E9 (R167, R121). -/
def execSbcImm (v : Word) (s : State) : Result := .next (sbcOp (.imm v) s)
/-- `SBC a`, opcode ED (R167, R122). -/
def execSbcAbs (a : Word) (s : State) : Result := .next (sbcOp (.mem (.abs a)) s)
/-- `SBC al`, opcode EF (R167, R123). -/
def execSbcLong (a : Addr) (s : State) : Result := .next (sbcOp (.mem (.long a)) s)
/-- `SBC d`, opcode E5 (R167, R124). -/
def execSbcDp (o : Byte) (s : State) : Result := .next (sbcOp (.mem (.dp o)) s)
/-- `SBC d,x`, opcode F5 (R167, R128). -/
def execSbcDpX (o : Byte) (s : State) : Result := .next (sbcOp (.mem (.dpX o)) s)
/-- `SBC a,x`, opcode FD (R167, R130). -/
def execSbcAbsX (a : Word) (s : State) : Result := .next (sbcOp (.mem (.absX a)) s)
/-- `SBC a,y`, opcode F9 (R167, R131). -/
def execSbcAbsY (a : Word) (s : State) : Result := .next (sbcOp (.mem (.absY a)) s)
/-- `SBC al,x`, opcode FF (R167, R132). -/
def execSbcLongX (a : Addr) (s : State) : Result := .next (sbcOp (.mem (.longX a)) s)
/-- `SBC d,s`, opcode E3 (R167, R133). -/
def execSbcSr (o : Byte) (s : State) : Result := .next (sbcOp (.mem (.sr o)) s)
/-- `SBC (d,x)`, opcode E1 (R167, R134). -/
def execSbcDpXInd (o : Byte) (s : State) : Result := .next (sbcOp (.mem (.dpXInd o)) s)
/-- `SBC (d),y`, opcode F1 (R167, R135). -/
def execSbcDpIndY (o : Byte) (s : State) : Result := .next (sbcOp (.mem (.dpIndY o)) s)
/-- `SBC [d],y`, opcode F7 (R167, R136). -/
def execSbcDpLongIndY (o : Byte) (s : State) : Result := .next (sbcOp (.mem (.dpLongIndY o)) s)
/-- `SBC (d,s),y`, opcode F3 (R167, R137). -/
def execSbcSrIndY (o : Byte) (s : State) : Result := .next (sbcOp (.mem (.srIndY o)) s)
/-- `SBC (d)`, opcode F2 (R167, R138). -/
def execSbcDpInd (o : Byte) (s : State) : Result := .next (sbcOp (.mem (.dpInd o)) s)
/-- `SBC [d]`, opcode E7 (R167, R139). -/
def execSbcDpLongInd (o : Byte) (s : State) : Result := .next (sbcOp (.mem (.dpLongInd o)) s)

/-! STA (R168) -/
/-- `STA a`, opcode 8D (R168, R122). -/
def execStaAbs (a : Word) (s : State) : Result := .next (staOp (.abs a) s)
/-- `STA al`, opcode 8F (R168, R123). -/
def execStaLong (a : Addr) (s : State) : Result := .next (staOp (.long a) s)
/-- `STA d`, opcode 85 (R168, R124). -/
def execStaDp (o : Byte) (s : State) : Result := .next (staOp (.dp o) s)
/-- `STA d,x`, opcode 95 (R168, R128). -/
def execStaDpX (o : Byte) (s : State) : Result := .next (staOp (.dpX o) s)
/-- `STA a,x`, opcode 9D (R168, R130). -/
def execStaAbsX (a : Word) (s : State) : Result := .next (staOp (.absX a) s)
/-- `STA a,y`, opcode 99 (R168, R131). -/
def execStaAbsY (a : Word) (s : State) : Result := .next (staOp (.absY a) s)
/-- `STA al,x`, opcode 9F (R168, R132). -/
def execStaLongX (a : Addr) (s : State) : Result := .next (staOp (.longX a) s)
/-- `STA d,s`, opcode 83 (R168, R133). -/
def execStaSr (o : Byte) (s : State) : Result := .next (staOp (.sr o) s)
/-- `STA (d,x)`, opcode 81 (R168, R134). -/
def execStaDpXInd (o : Byte) (s : State) : Result := .next (staOp (.dpXInd o) s)
/-- `STA (d),y`, opcode 91 (R168, R135). -/
def execStaDpIndY (o : Byte) (s : State) : Result := .next (staOp (.dpIndY o) s)
/-- `STA [d],y`, opcode 97 (R168, R136). -/
def execStaDpLongIndY (o : Byte) (s : State) : Result := .next (staOp (.dpLongIndY o) s)
/-- `STA (d,s),y`, opcode 93 (R168, R137). -/
def execStaSrIndY (o : Byte) (s : State) : Result := .next (staOp (.srIndY o) s)
/-- `STA (d)`, opcode 92 (R168, R138). -/
def execStaDpInd (o : Byte) (s : State) : Result := .next (staOp (.dpInd o) s)
/-- `STA [d]`, opcode 87 (R168, R139). -/
def execStaDpLongInd (o : Byte) (s : State) : Result := .next (staOp (.dpLongInd o) s)

end Sys2Proof.Machine
end

