-- ==== Sys2Proof/Machine/BlockMove.lean ====
section
/-! DEFINITION. Group 8, block moves MVN and MVP (R340 to R343). -/

namespace Sys2Proof.Machine

/-- Whether X and Y count down: MVN by the source, MVP by the other setting (R341, R342). -/
def countsDown (d : BlockDirection) (negative : Bool) : Bool :=
  match d with
  | .source => negative
  | .other => !negative

/-- An index register one step on, modulo 2^w (R340). -/
def stepIndex (down : Bool) (w : Width) (v : Word) : Word := w.trunc (if down then v - 1 else v + 1)

/-- One pass of the loop: DBR, the byte, X and Y (R340). Where each pass is a step of its own, a pass that goes on with a
move loads DBR from b1 again, as the first one does: DESIGN CHOICE, unsafe (log 32). -/
def blockPass (down : Bool) (dst src : Byte) (s : State) : State :=
  let s1 := s.onRegs fun g => { g with dbr := dst }
  let v := readByte (bankAddr src s1.regs.x) s1
  let s2 := writeByte (bankAddr dst v.2.regs.y) v.1 v.2
  s2.onRegs fun g => { g with x := stepIndex down g.wX g.x, y := stepIndex down g.wX g.y }

/-- The end of the move: the final C, and the next instruction (R340). -/
def blockFinish (s : State) : State :=
  s.onRegs fun g =>
    ({ g with c := match s.params.blockMoveFinalC with
        | .zero => 0x0000#16
        | .ffff => 0xFFFF#16 }).advance 3

/-- `C <- C - 1` (R340). -/
def blockCount (s : State) : State := s.onRegs fun g => { g with c := g.c - 1 }

/-- The whole loop, `n` the value of C: `n + 1` passes (R340). -/
def blockLoop (down : Bool) (dst src : Byte) : Nat → State → State
  | 0, s => blockFinish (blockPass down dst src s)
  | n + 1, s => blockLoop down dst src n (blockCount (blockPass down dst src s))

/-- One step of the move: the whole of it, or one pass with PC left at the opcode while C > 0 (R343). So with perByte
each pass is fetched again, and one that overwrote the bytes of its own instruction is followed by whatever those bytes
are then (R77 of each step by itself): DESIGN CHOICE, unsafe (log 31). -/
def blockMove (negative : Bool) (dst src : Byte) (s : State) : State :=
  let down := countsDown s.params.blockMoveDirection negative
  match s.params.blockMoveInterruptible with
  | .atomic => blockLoop down dst src s.regs.c.toNat s
  | .perByte =>
    let t := blockPass down dst src s
    if s.regs.c = 0x0000#16 then blockFinish t else blockCount t

/-! MVN (R341) -/
/-- `MVN xyc`, opcode 54 (R341, R144). -/
def execMvn (dst : Byte) (src : Byte) (s : State) : Result := .next (blockMove true dst src s)

/-! MVP (R342) -/
/-- `MVP xyc`, opcode 44 (R342, R144). -/
def execMvp (dst : Byte) (src : Byte) (s : State) : Result := .next (blockMove false dst src s)

end Sys2Proof.Machine
end

