-- ==== Sys2Proof/Machine/Branch.lean ====
section
/-! DEFINITION. Group 6, relative branches (R300 to R310). -/

namespace Sys2Proof.Machine

/-- A short branch: to the address after it plus the signed offset when the condition holds (R300, R140). -/
def branchIf (cond : Status → Bool) (off : Byte) (s : State) : State :=
  s.onRegs fun g => if cond g.p then g.jump (g.pc + 2 + sext off) else g.advance 2

/-- BRL: the address after it plus the 16-bit offset (R300, R141, R308). -/
def branchLong (off : Word) (s : State) : State := s.onRegs fun g => g.jump (g.pc + 3 + off)

/-! BCC (R301) -/
/-- `BCC r`, opcode 90 (R301, R140). -/
def execBcc (off : Byte) (s : State) : Result := .next (branchIf (fun p => !p.c) off s)

/-! BCS (R302) -/
/-- `BCS r`, opcode B0 (R302, R140). -/
def execBcs (off : Byte) (s : State) : Result := .next (branchIf (fun p => p.c) off s)

/-! BEQ (R303) -/
/-- `BEQ r`, opcode F0 (R303, R140). -/
def execBeq (off : Byte) (s : State) : Result := .next (branchIf (fun p => p.z) off s)

/-! BMI (R304) -/
/-- `BMI r`, opcode 30 (R304, R140). -/
def execBmi (off : Byte) (s : State) : Result := .next (branchIf (fun p => p.n) off s)

/-! BNE (R305) -/
/-- `BNE r`, opcode D0 (R305, R140). -/
def execBne (off : Byte) (s : State) : Result := .next (branchIf (fun p => !p.z) off s)

/-! BPL (R306) -/
/-- `BPL r`, opcode 10 (R306, R140). -/
def execBpl (off : Byte) (s : State) : Result := .next (branchIf (fun p => !p.n) off s)

/-! BRA (R307) -/
/-- `BRA r`, opcode 80 (R307, R140). -/
def execBra (off : Byte) (s : State) : Result := .next (branchIf (fun _ => true) off s)

/-! BRL (R308) -/
/-- `BRL rl`, opcode 82 (R308, R141). -/
def execBrl (off : Word) (s : State) : Result := .next (branchLong off s)

/-! BVC (R309) -/
/-- `BVC r`, opcode 50 (R309, R140). -/
def execBvc (off : Byte) (s : State) : Result := .next (branchIf (fun p => !p.v) off s)

/-! BVS (R310) -/
/-- `BVS r`, opcode 70 (R310, R140). -/
def execBvs (off : Byte) (s : State) : Result := .next (branchIf (fun p => p.v) off s)

end Sys2Proof.Machine
end

