-- ==== Sys2Proof/Machine/Implied.lean ====
section
/-! DEFINITION. Group 4, implied instructions (R215 to R244). -/

namespace Sys2Proof.Machine

/-- Change the registers and go on to the next instruction, one byte on (R215). -/
def impliedOp (f : Regs → Regs) (s : State) : State := s.onRegs fun g => (f g).advance 1

/-- A result for X: reduced to `wX` bits, with its N and Z (R216, R220). -/
def Regs.resultX (v : Word) (g : Regs) : Regs := (g.setX v).setNZ g.wX v

/-- A result for Y: reduced to `wX` bits, with its N and Z (R217, R221). -/
def Regs.resultY (v : Word) (g : Regs) : Regs := (g.setY v).setNZ g.wX v

/-- Change the flags and nothing else. -/
def Regs.onFlags (f : Status → Status) (g : Regs) : Regs := { g with p := f g.p }

/-- The other half of an exchange of C and E: entering or staying in emulation mode sets M, X, XH, YH, SH (R240). -/
def Regs.enforceEmulation (g : Regs) : Regs :=
  if g.e then
    { g with
      p := { g.p with m := true, x := true }
      x := word 0x00#8 (lo g.x)
      y := word 0x00#8 (lo g.y)
      sp := word 0x01#8 (lo g.sp) }
  else g

/-- XCE (R240). -/
def Regs.exchangeCE (g : Regs) : Regs :=
  ({ g with p := { g.p with c := g.e }, e := g.p.c }).enforceEmulation

/-- XBA: N and Z from the new A at 8 bits, whatever M is (R239). -/
def Regs.exchangeBA (g : Regs) : Regs :=
  ({ g with c := word (lo g.c) (hi g.c) }).setNZ .w8 (zext (hi g.c))

/-- TXS; N and Z at the index width where SRC_TXS_SETS_NZ is on (R224). -/
def txsOp (s : State) : State :=
  impliedOp (fun g =>
    let g' := g.setS g.x
    if s.params.txsSetsNZ then g'.setNZ g.wX g.x else g') s

/-! INX (R216) -/
/-- `INX`, opcode E8 (R216, R126). -/
def execInx (s : State) : Result := .next (impliedOp (fun g => g.resultX (g.x + 1)) s)

/-! INY (R217) -/
/-- `INY`, opcode C8 (R217, R126). -/
def execIny (s : State) : Result := .next (impliedOp (fun g => g.resultY (g.y + 1)) s)

/-! DEX (R218) -/
/-- `DEX`, opcode CA (R218, R126). -/
def execDex (s : State) : Result := .next (impliedOp (fun g => g.resultX (g.x - 1)) s)

/-! DEY (R219) -/
/-- `DEY`, opcode 88 (R219, R126). -/
def execDey (s : State) : Result := .next (impliedOp (fun g => g.resultY (g.y - 1)) s)

/-! TAX (R220) -/
/-- `TAX`, opcode AA (R220, R126). -/
def execTax (s : State) : Result := .next (impliedOp (fun g => g.resultX g.c) s)

/-! TAY (R221) -/
/-- `TAY`, opcode A8 (R221, R126). -/
def execTay (s : State) : Result := .next (impliedOp (fun g => g.resultY g.c) s)

/-! TSX (R222) -/
/-- `TSX`, opcode BA (R222, R126). -/
def execTsx (s : State) : Result := .next (impliedOp (fun g => g.resultX g.sp) s)

/-! TXA (R223) -/
/-- `TXA`, opcode 8A (R223, R126). -/
def execTxa (s : State) : Result := .next (impliedOp (fun g => g.resultAcc g.x) s)

/-! TXS (R224) -/
/-- `TXS`, opcode 9A (R224, R126). -/
def execTxs (s : State) : Result := .next (txsOp s)

/-! TXY (R225) -/
/-- `TXY`, opcode 9B (R225, R126). -/
def execTxy (s : State) : Result := .next (impliedOp (fun g => g.resultY g.x) s)

/-! TYA (R226) -/
/-- `TYA`, opcode 98 (R226, R126). -/
def execTya (s : State) : Result := .next (impliedOp (fun g => g.resultAcc g.y) s)

/-! TYX (R227) -/
/-- `TYX`, opcode BB (R227, R126). -/
def execTyx (s : State) : Result := .next (impliedOp (fun g => g.resultX g.y) s)

/-! CLC (R228) -/
/-- `CLC`, opcode 18 (R228, R126). -/
def execClc (s : State) : Result := .next (impliedOp (Regs.onFlags fun p => { p with c := false }) s)

/-! CLD (R229) -/
/-- `CLD`, opcode D8 (R229, R126). -/
def execCld (s : State) : Result := .next (impliedOp (Regs.onFlags fun p => { p with d := false }) s)

/-! CLI (R230) -/
/-- `CLI`, opcode 58 (R230, R126). -/
def execCli (s : State) : Result := .next (impliedOp (Regs.onFlags fun p => { p with i := false }) s)

/-! CLV (R231) -/
/-- `CLV`, opcode B8 (R231, R126). -/
def execClv (s : State) : Result := .next (impliedOp (Regs.onFlags fun p => { p with v := false }) s)

/-! SEC (R232) -/
/-- `SEC`, opcode 38 (R232, R126). -/
def execSec (s : State) : Result := .next (impliedOp (Regs.onFlags fun p => { p with c := true }) s)

/-! SED (R233) -/
/-- `SED`, opcode F8 (R233, R126). -/
def execSed (s : State) : Result := .next (impliedOp (Regs.onFlags fun p => { p with d := true }) s)

/-! SEI (R234) -/
/-- `SEI`, opcode 78 (R234, R126). -/
def execSei (s : State) : Result := .next (impliedOp (Regs.onFlags fun p => { p with i := true }) s)

/-! TCD (R235) -/
/-- `TCD`, opcode 5B (R235, R126). -/
def execTcd (s : State) : Result := .next (impliedOp (fun g => ({ g with dr := g.c }).setNZ .w16 g.c) s)

/-! TCS (R236) -/
/-- `TCS`, opcode 1B (R236, R126). -/
def execTcs (s : State) : Result := .next (impliedOp (fun g => g.setS g.c) s)

/-! TDC (R237) -/
/-- `TDC`, opcode 7B (R237, R126). -/
def execTdc (s : State) : Result := .next (impliedOp (fun g => ({ g with c := g.dr }).setNZ .w16 g.dr) s)

/-! TSC (R238) -/
/-- `TSC`, opcode 3B (R238, R126). -/
def execTsc (s : State) : Result := .next (impliedOp (fun g => ({ g with c := g.sp }).setNZ .w16 g.sp) s)

/-! XBA (R239) -/
/-- `XBA`, opcode EB (R239, R126). -/
def execXba (s : State) : Result := .next (impliedOp Regs.exchangeBA s)

/-! XCE (R240) -/
/-- `XCE`, opcode FB (R240, R126). -/
def execXce (s : State) : Result := .next (impliedOp Regs.exchangeCE s)

/-! STP (R241) -/
/-- `STP`, opcode DB (R241, R126). -/
def execStp (s : State) : Result := .next { impliedOp id s with run := .stopped }

/-! WAI (R242) -/
/-- `WAI`, opcode CB (R242, R126). -/
def execWai (s : State) : Result := .next { impliedOp id s with run := .waiting }

/-! WDM (R243) -/
/-- `WDM`, opcode 42 (R243, R126). -/
def execWdm (_ : Byte) (s : State) : Result := .next (s.onRegs (Regs.advance 2))

/-! NOP (R244) -/
/-- `NOP`, opcode EA (R244, R126). -/
def execNop (s : State) : Result := .next (impliedOp id s)

end Sys2Proof.Machine
end

