-- ==== Sys2Proof/Machine/IndexMem.lean ====
section
/-! DEFINITION. Group 3, index registers and memory: LDX LDY CPX CPY STX STY STZ (R200 to R207). -/

namespace Sys2Proof.Machine

/-- Read the data operand at the index width, change the registers by `f`, go on to the next instruction (R200). -/
def withIndexOperand (f : Width → Word → Regs → Regs) (o : Operand) (s : State) : State :=
  let w := s.regs.wX
  let m := loadOperand o w s
  m.2.onRegs fun g => (f w m.1 g).advance (operandLen w o)

/-- LDX (R201). -/
def ldxOp (o : Operand) (s : State) : State := withIndexOperand (fun w m g => (g.setX m).setNZ w m) o s

/-- LDY (R202). -/
def ldyOp (o : Operand) (s : State) : State := withIndexOperand (fun w m g => (g.setY m).setNZ w m) o s

/-- CPX (R203). -/
def cpxOp (o : Operand) (s : State) : State :=
  withIndexOperand (fun w m g => { g with p := g.p.compare w (w.trunc g.x) m }) o s

/-- CPY (R204). -/
def cpyOp (o : Operand) (s : State) : State :=
  withIndexOperand (fun w m g => { g with p := g.p.compare w (w.trunc g.y) m }) o s

/-- STX (R205). -/
def stxOp (md : MemMode) (s : State) : State :=
  (storeMem md s.regs.wX (s.regs.wX.trunc s.regs.x) s).onRegs (Regs.advance (memLen md))

/-- STY (R206). -/
def styOp (md : MemMode) (s : State) : State :=
  (storeMem md s.regs.wX (s.regs.wX.trunc s.regs.y) s).onRegs (Regs.advance (memLen md))

/-- STZ, of the accumulator's width (R207). -/
def stzOp (md : MemMode) (s : State) : State :=
  (storeMem md s.regs.wA 0x0000#16 s).onRegs (Regs.advance (memLen md))

/-! LDX (R201) -/
/-- `LDX #`, opcode A2 (R201, R121). -/
def execLdxImm (v : Word) (s : State) : Result := .next (ldxOp (.imm v) s)
/-- `LDX a`, opcode AE (R201, R122). -/
def execLdxAbs (a : Word) (s : State) : Result := .next (ldxOp (.mem (.abs a)) s)
/-- `LDX d`, opcode A6 (R201, R124). -/
def execLdxDp (o : Byte) (s : State) : Result := .next (ldxOp (.mem (.dp o)) s)
/-- `LDX d,y`, opcode B6 (R201, R129). -/
def execLdxDpY (o : Byte) (s : State) : Result := .next (ldxOp (.mem (.dpY o)) s)
/-- `LDX a,y`, opcode BE (R201, R131). -/
def execLdxAbsY (a : Word) (s : State) : Result := .next (ldxOp (.mem (.absY a)) s)

/-! LDY (R202) -/
/-- `LDY #`, opcode A0 (R202, R121). -/
def execLdyImm (v : Word) (s : State) : Result := .next (ldyOp (.imm v) s)
/-- `LDY a`, opcode AC (R202, R122). -/
def execLdyAbs (a : Word) (s : State) : Result := .next (ldyOp (.mem (.abs a)) s)
/-- `LDY d`, opcode A4 (R202, R124). -/
def execLdyDp (o : Byte) (s : State) : Result := .next (ldyOp (.mem (.dp o)) s)
/-- `LDY d,x`, opcode B4 (R202, R128). -/
def execLdyDpX (o : Byte) (s : State) : Result := .next (ldyOp (.mem (.dpX o)) s)
/-- `LDY a,x`, opcode BC (R202, R130). -/
def execLdyAbsX (a : Word) (s : State) : Result := .next (ldyOp (.mem (.absX a)) s)

/-! CPX (R203) -/
/-- `CPX #`, opcode E0 (R203, R121). -/
def execCpxImm (v : Word) (s : State) : Result := .next (cpxOp (.imm v) s)
/-- `CPX a`, opcode EC (R203, R122). -/
def execCpxAbs (a : Word) (s : State) : Result := .next (cpxOp (.mem (.abs a)) s)
/-- `CPX d`, opcode E4 (R203, R124). -/
def execCpxDp (o : Byte) (s : State) : Result := .next (cpxOp (.mem (.dp o)) s)

/-! CPY (R204) -/
/-- `CPY #`, opcode C0 (R204, R121). -/
def execCpyImm (v : Word) (s : State) : Result := .next (cpyOp (.imm v) s)
/-- `CPY a`, opcode CC (R204, R122). -/
def execCpyAbs (a : Word) (s : State) : Result := .next (cpyOp (.mem (.abs a)) s)
/-- `CPY d`, opcode C4 (R204, R124). -/
def execCpyDp (o : Byte) (s : State) : Result := .next (cpyOp (.mem (.dp o)) s)

/-! STX (R205) -/
/-- `STX a`, opcode 8E (R205, R122). -/
def execStxAbs (a : Word) (s : State) : Result := .next (stxOp (.abs a) s)
/-- `STX d`, opcode 86 (R205, R124). -/
def execStxDp (o : Byte) (s : State) : Result := .next (stxOp (.dp o) s)
/-- `STX d,y`, opcode 96 (R205, R129). -/
def execStxDpY (o : Byte) (s : State) : Result := .next (stxOp (.dpY o) s)

/-! STY (R206) -/
/-- `STY a`, opcode 8C (R206, R122). -/
def execStyAbs (a : Word) (s : State) : Result := .next (styOp (.abs a) s)
/-- `STY d`, opcode 84 (R206, R124). -/
def execStyDp (o : Byte) (s : State) : Result := .next (styOp (.dp o) s)
/-- `STY d,x`, opcode 94 (R206, R128). -/
def execStyDpX (o : Byte) (s : State) : Result := .next (styOp (.dpX o) s)

/-! STZ (R207) -/
/-- `STZ a`, opcode 9C (R207, R122). -/
def execStzAbs (a : Word) (s : State) : Result := .next (stzOp (.abs a) s)
/-- `STZ d`, opcode 64 (R207, R124). -/
def execStzDp (o : Byte) (s : State) : Result := .next (stzOp (.dp o) s)
/-- `STZ d,x`, opcode 74 (R207, R128). -/
def execStzDpX (o : Byte) (s : State) : Result := .next (stzOp (.dpX o) s)
/-- `STZ a,x`, opcode 9E (R207, R130). -/
def execStzAbsX (a : Word) (s : State) : Result := .next (stzOp (.absX a) s)

end Sys2Proof.Machine
end

