-- ==== Sys2Proof/Machine/Jump.lean ====
section
/-! DEFINITION. Group 7, jumps and subroutine calls (R320 to R324). -/

namespace Sys2Proof.Machine

/-- `PC <- a`, PBR unchanged. -/
def jumpNear (a : Word) (s : State) : State := s.onRegs (Regs.jump a)

/-- `PC <- a[15:0]; PBR <- a[23:16]`. -/
def jumpFar (a : Addr) (s : State) : State := s.onRegs fun g => { g with pc := offsetOf a, pbr := bankOf a }

/-- The pointer of `(a,x)`: bank 00, or bank PBR by SRC_JMP_AX_POINTER_BANK (R143, D27). That the pointer wraps inside
bank PBR there, as it does inside bank 00, is a DESIGN CHOICE, unsafe (log 33). -/
def State.indexedPointerEA (a : Word) (s : State) : EA :=
  match s.params.jmpPointerBank with
  | .bank00 => EA.b0 (a + s.regs.x)
  | .programBank => .bank s.regs.pbr (a + s.regs.x)

/-- Jump through a 2-byte pointer (R142, R143). -/
def jumpThrough (ea : EA) (s : State) : State :=
  let p := read16 ea s
  jumpNear p.1 p.2

/-- The call's push: the address of its last byte (R320). -/
def pushReturn (len : Nat) (s : State) : State := push16 (s.regs.pc + BitVec.ofNat 16 (len - 1)) s

/-- JML (R321). -/
def jmlOp (a : Word) (s : State) : State :=
  let p := read24 (EA.b0 a) s
  jumpFar p.1 p.2

/-- JSL: PBR, then the return address (R323). -/
def jslOp (a : Addr) (s : State) : State := jumpFar a (pushReturn 4 (push8 s.regs.pbr s))

/-- JSR (a,x): the push happens before the pointer is read (R324). -/
def jsrIndexed (a : Word) (s : State) : State :=
  let t := pushReturn 3 s
  jumpThrough (t.indexedPointerEA a) t

/-! JML (R321) -/
/-- `JML (a)`, opcode DC (R321, R142). -/
def execJml (a : Word) (s : State) : Result := .next (jmlOp a s)

/-! JMP (R322) -/
/-- `JMP a`, opcode 4C (R322, R122). -/
def execJmpAbs (a : Word) (s : State) : Result := .next (jumpNear a s)
/-- `JMP al`, opcode 5C (R322, R123). -/
def execJmpLong (a : Addr) (s : State) : Result := .next (jumpFar a s)
/-- `JMP (a)`, opcode 6C (R322, R142). -/
def execJmpAbsInd (a : Word) (s : State) : Result := .next (jumpThrough (EA.b0 a) s)
/-- `JMP (a,x)`, opcode 7C (R322, R143). -/
def execJmpAbsXInd (a : Word) (s : State) : Result := .next (jumpThrough (s.indexedPointerEA a) s)

/-! JSL (R323) -/
/-- `JSL al`, opcode 22 (R323, R123). -/
def execJsl (a : Addr) (s : State) : Result := .next (jslOp a s)

/-! JSR (R324) -/
/-- `JSR a`, opcode 20 (R324, R122). -/
def execJsrAbs (a : Word) (s : State) : Result := .next (jumpNear a (pushReturn 3 s))
/-- `JSR (a,x)`, opcode FC (R324, R143). -/
def execJsrAbsXInd (a : Word) (s : State) : Result := .next (jsrIndexed a s)

end Sys2Proof.Machine
end

