-- ==== Sys2Proof/Machine/ShiftBit.lean ====
section
/-! DEFINITION. Group 2: BIT, the shifts and counts ROR ASL LSR ROL INC DEC, REP SEP, TRB TSB (R180 to R191). -/

namespace Sys2Proof.Machine

/-- N and Z of a result, and C (R182 to R187). -/
def Regs.setNZC (w : Width) (r : Word × Bool) (g : Regs) : Regs :=
  let g' := g.setNZ w r.1
  { g' with p := { g'.p with c := r.2 } }

/-- A shift or count of the accumulator (R180, mode A). -/
def modifyAcc (f : Width → Word → Bool → Word × Bool) (s : State) : State :=
  s.onRegs fun g =>
    let r := f g.wA g.acc g.p.c
    ((g.setAcc r.1).setNZC g.wA r).advance 1

/-- A shift or count of memory: the address is computed once, the result goes back to it (R180). -/
def modifyMem (f : Width → Word → Bool → Word × Bool) (md : MemMode) (s : State) : State :=
  let w := s.regs.wA
  let ea := effAddr md s
  let v := loadEA ea.1 w ea.2
  let r := f w v.1 s.regs.p.c
  (storeBackEA ea.1 w r.1 v.2).onRegs fun g => (g.setNZC w r).advance (memLen md)

/-- Z of the tested bits (R181, R190, R191). -/
def Regs.setTestZ (m : Word) (g : Regs) : Regs := { g with p := { g.p with z := decide (g.acc &&& m = 0x0000#16) } }

/-- BIT: only Z for an immediate, N and V from the top bits of the operand otherwise (R181). -/
def bitTest (o : Operand) (s : State) : State :=
  let w := s.regs.wA
  let m := loadOperand o w s
  m.2.onRegs fun g =>
    let g' := g.setTestZ m.1
    let g'' := match o with
      | .imm _ => g'
      | .mem _ => { g' with p := { g'.p with n := w.msb m.1, v := w.nextMsb m.1 } }
    g''.advance (operandLen w o)

/-- TRB and TSB: Z of the tested bits, the memory operand changed by `f acc v` (R190, R191). -/
def testModify (f : Word → Word → Word) (md : MemMode) (s : State) : State :=
  let w := s.regs.wA
  let ea := effAddr md s
  let v := loadEA ea.1 w ea.2
  (storeBackEA ea.1 w (f s.regs.acc v.1) v.2).onRegs fun g => (g.setTestZ v.1).advance (memLen md)

/-- TRB: the bits of memory that are 1 in the accumulator are reset (R190). -/
def trbOp (md : MemMode) (s : State) : State := testModify (fun a v => v &&& ~~~a) md s

/-- TSB: they are set (R191). -/
def tsbOp (md : MemMode) (s : State) : State := testModify (fun a v => v ||| a) md s

/-- REP (R188). -/
def repOp (imm : Byte) (s : State) : State :=
  s.onRegs fun g => (g.unpackP (g.p.pack g.e false &&& ~~~imm)).advance 2

/-- SEP (R189). -/
def sepOp (imm : Byte) (s : State) : State :=
  s.onRegs fun g => (g.unpackP (g.p.pack g.e false ||| imm)).advance 2

/-! BIT (R181) -/
/-- `BIT #`, opcode 89 (R181, R121). -/
def execBitImm (v : Word) (s : State) : Result := .next (bitTest (.imm v) s)
/-- `BIT a`, opcode 2C (R181, R122). -/
def execBitAbs (a : Word) (s : State) : Result := .next (bitTest (.mem (.abs a)) s)
/-- `BIT d`, opcode 24 (R181, R124). -/
def execBitDp (o : Byte) (s : State) : Result := .next (bitTest (.mem (.dp o)) s)
/-- `BIT d,x`, opcode 34 (R181, R128). -/
def execBitDpX (o : Byte) (s : State) : Result := .next (bitTest (.mem (.dpX o)) s)
/-- `BIT a,x`, opcode 3C (R181, R130). -/
def execBitAbsX (a : Word) (s : State) : Result := .next (bitTest (.mem (.absX a)) s)

/-! ROR (R182) -/
/-- `ROR a`, opcode 6E (R182, R122). -/
def execRorAbs (a : Word) (s : State) : Result := .next (modifyMem rorResult (.abs a) s)
/-- `ROR d`, opcode 66 (R182, R124). -/
def execRorDp (o : Byte) (s : State) : Result := .next (modifyMem rorResult (.dp o) s)
/-- `ROR A`, opcode 6A (R182, R125). -/
def execRorAcc (s : State) : Result := .next (modifyAcc rorResult s)
/-- `ROR d,x`, opcode 76 (R182, R128). -/
def execRorDpX (o : Byte) (s : State) : Result := .next (modifyMem rorResult (.dpX o) s)
/-- `ROR a,x`, opcode 7E (R182, R130). -/
def execRorAbsX (a : Word) (s : State) : Result := .next (modifyMem rorResult (.absX a) s)

/-! ASL (R183) -/
/-- `ASL a`, opcode 0E (R183, R122). -/
def execAslAbs (a : Word) (s : State) : Result := .next (modifyMem aslResult (.abs a) s)
/-- `ASL d`, opcode 06 (R183, R124). -/
def execAslDp (o : Byte) (s : State) : Result := .next (modifyMem aslResult (.dp o) s)
/-- `ASL A`, opcode 0A (R183, R125). -/
def execAslAcc (s : State) : Result := .next (modifyAcc aslResult s)
/-- `ASL d,x`, opcode 16 (R183, R128). -/
def execAslDpX (o : Byte) (s : State) : Result := .next (modifyMem aslResult (.dpX o) s)
/-- `ASL a,x`, opcode 1E (R183, R130). -/
def execAslAbsX (a : Word) (s : State) : Result := .next (modifyMem aslResult (.absX a) s)

/-! LSR (R184) -/
/-- `LSR a`, opcode 4E (R184, R122). -/
def execLsrAbs (a : Word) (s : State) : Result := .next (modifyMem lsrResult (.abs a) s)
/-- `LSR d`, opcode 46 (R184, R124). -/
def execLsrDp (o : Byte) (s : State) : Result := .next (modifyMem lsrResult (.dp o) s)
/-- `LSR A`, opcode 4A (R184, R125). -/
def execLsrAcc (s : State) : Result := .next (modifyAcc lsrResult s)
/-- `LSR d,x`, opcode 56 (R184, R128). -/
def execLsrDpX (o : Byte) (s : State) : Result := .next (modifyMem lsrResult (.dpX o) s)
/-- `LSR a,x`, opcode 5E (R184, R130). -/
def execLsrAbsX (a : Word) (s : State) : Result := .next (modifyMem lsrResult (.absX a) s)

/-! ROL (R185) -/
/-- `ROL a`, opcode 2E (R185, R122). -/
def execRolAbs (a : Word) (s : State) : Result := .next (modifyMem rolResult (.abs a) s)
/-- `ROL d`, opcode 26 (R185, R124). -/
def execRolDp (o : Byte) (s : State) : Result := .next (modifyMem rolResult (.dp o) s)
/-- `ROL A`, opcode 2A (R185, R125). -/
def execRolAcc (s : State) : Result := .next (modifyAcc rolResult s)
/-- `ROL d,x`, opcode 36 (R185, R128). -/
def execRolDpX (o : Byte) (s : State) : Result := .next (modifyMem rolResult (.dpX o) s)
/-- `ROL a,x`, opcode 3E (R185, R130). -/
def execRolAbsX (a : Word) (s : State) : Result := .next (modifyMem rolResult (.absX a) s)

/-! INC (R186) -/
/-- `INC a`, opcode EE (R186, R122). -/
def execIncAbs (a : Word) (s : State) : Result := .next (modifyMem incResult (.abs a) s)
/-- `INC d`, opcode E6 (R186, R124). -/
def execIncDp (o : Byte) (s : State) : Result := .next (modifyMem incResult (.dp o) s)
/-- `INC A`, opcode 1A (R186, R125). -/
def execIncAcc (s : State) : Result := .next (modifyAcc incResult s)
/-- `INC d,x`, opcode F6 (R186, R128). -/
def execIncDpX (o : Byte) (s : State) : Result := .next (modifyMem incResult (.dpX o) s)
/-- `INC a,x`, opcode FE (R186, R130). -/
def execIncAbsX (a : Word) (s : State) : Result := .next (modifyMem incResult (.absX a) s)

/-! DEC (R187) -/
/-- `DEC a`, opcode CE (R187, R122). -/
def execDecAbs (a : Word) (s : State) : Result := .next (modifyMem decResult (.abs a) s)
/-- `DEC d`, opcode C6 (R187, R124). -/
def execDecDp (o : Byte) (s : State) : Result := .next (modifyMem decResult (.dp o) s)
/-- `DEC A`, opcode 3A (R187, R125). -/
def execDecAcc (s : State) : Result := .next (modifyAcc decResult s)
/-- `DEC d,x`, opcode D6 (R187, R128). -/
def execDecDpX (o : Byte) (s : State) : Result := .next (modifyMem decResult (.dpX o) s)
/-- `DEC a,x`, opcode DE (R187, R130). -/
def execDecAbsX (a : Word) (s : State) : Result := .next (modifyMem decResult (.absX a) s)

/-! REP (R188) -/
/-- `REP #`, opcode C2 (R188, R121). -/
def execRep (imm : Byte) (s : State) : Result := .next (repOp imm s)

/-! SEP (R189) -/
/-- `SEP #`, opcode E2 (R189, R121). -/
def execSep (imm : Byte) (s : State) : Result := .next (sepOp imm s)

/-! TRB (R190) -/
/-- `TRB a`, opcode 1C (R190, R122). -/
def execTrbAbs (a : Word) (s : State) : Result := .next (trbOp (.abs a) s)
/-- `TRB d`, opcode 14 (R190, R124). -/
def execTrbDp (o : Byte) (s : State) : Result := .next (trbOp (.dp o) s)

/-! TSB (R191) -/
/-- `TSB a`, opcode 0C (R191, R122). -/
def execTsbAbs (a : Word) (s : State) : Result := .next (tsbOp (.abs a) s)
/-- `TSB d`, opcode 04 (R191, R124). -/
def execTsbDp (o : Byte) (s : State) : Result := .next (tsbOp (.dp o) s)

end Sys2Proof.Machine
end

