-- ==== Sys2Proof/Machine/Stack.lean ====
section
/-! DEFINITION. Group 5, stack instructions (R260 to R281). -/

namespace Sys2Proof.Machine

/-- Push a value of a width and go on (R261, R266, R267). -/
def pushOp (w : Width) (v : Word) (s : State) : State := (pushWidth w v s).onRegs (Regs.advance 1)

/-- Push one byte and go on (R262, R264, R265). -/
def pushByteOp (v : Byte) (s : State) : State := (push8 v s).onRegs (Regs.advance 1)

/-- Push a 16-bit value and go on: PHD, PEA, PEI, PER (R263, R274 to R276). -/
def pushWordOp (len : Nat) (v : Word) (s : State) : State := (push16 v s).onRegs (Regs.advance len)

/-- Pull a value of a width into the registers and go on (R268, R272, R273). -/
def pullOp (w : Width) (f : Word → Regs → Regs) (s : State) : State :=
  let v := pullWidth w s
  v.2.onRegs fun g => (f v.1 g).advance 1

/-- PLB: N and Z of the byte (R269). -/
def plbOp (s : State) : State :=
  let v := pull8 s
  v.2.onRegs fun g => (({ g with dbr := v.1 }).setNZ .w8 (zext v.1)).advance 1

/-- PLP (R271). -/
def plpOp (s : State) : State :=
  let v := pull8 s
  v.2.onRegs fun g => (g.unpackP v.1).advance 1

/-- PEI: the pointer of `(d)`, read in bank 00 without the page wrap (R275, R150). -/
def peiOp (o : Byte) (s : State) : State :=
  let v := read16 (EA.b0 (s.regs.dp o)) s
  pushWordOp 2 v.1 v.2

/-- BRK: the interrupt entry with break bit 1 (R277, R355). -/
def brkOp (s : State) : State := enter .brk (s.regs.pc + 2) true s

/-- COP: the interrupt entry; in emulation mode the break bit is any (R278, R355, U4). -/
def copOp (s : State) : State :=
  if s.regs.e then
    let b := drawBit s
    enter .cop (s.regs.pc + 2) b.1 b.2
  else enter .cop (s.regs.pc + 2) true s

/-- RTS: the pulled address plus 1, inside the bank (R281). -/
def rtsOp (s : State) : State :=
  let a := pull16 s
  a.2.onRegs (Regs.jump (a.1 + 1))

/-- RTL: the pulled address plus 1 inside the pulled bank (R280). -/
def rtlOp (s : State) : State :=
  let a := pull16 s
  let b := pull8 a.2
  b.2.onRegs fun g => { g with pc := a.1 + 1, pbr := b.1 }

/-! PHA (R261) -/
/-- `PHA`, opcode 48 (R261, R127). -/
def execPha (s : State) : Result := .next (pushOp s.regs.wA s.regs.acc s)

/-! PHB (R262) -/
/-- `PHB`, opcode 8B (R262, R127). -/
def execPhb (s : State) : Result := .next (pushByteOp s.regs.dbr s)

/-! PHD (R263) -/
/-- `PHD`, opcode 0B (R263, R127). -/
def execPhd (s : State) : Result := .next (pushWordOp 1 s.regs.dr s)

/-! PHK (R264) -/
/-- `PHK`, opcode 4B (R264, R127). -/
def execPhk (s : State) : Result := .next (pushByteOp s.regs.pbr s)

/-! PHP (R265) -/
/-- `PHP`, opcode 08 (R265, R127). -/
def execPhp (s : State) : Result := .next (pushByteOp (s.regs.p.pack s.regs.e true) s)

/-! PHX (R266) -/
/-- `PHX`, opcode DA (R266, R127). -/
def execPhx (s : State) : Result := .next (pushOp s.regs.wX s.regs.x s)

/-! PHY (R267) -/
/-- `PHY`, opcode 5A (R267, R127). -/
def execPhy (s : State) : Result := .next (pushOp s.regs.wX s.regs.y s)

/-! PLA (R268) -/
/-- `PLA`, opcode 68 (R268, R127). -/
def execPla (s : State) : Result := .next (pullOp s.regs.wA Regs.resultAcc s)

/-! PLB (R269) -/
/-- `PLB`, opcode AB (R269, R127). -/
def execPlb (s : State) : Result := .next (plbOp s)

/-! PLD (R270) -/
/-- `PLD`, opcode 2B (R270, R127). -/
def execPld (s : State) : Result := .next (pullOp .w16 (fun v g => ({ g with dr := v }).setNZ .w16 v) s)

/-! PLP (R271) -/
/-- `PLP`, opcode 28 (R271, R127). -/
def execPlp (s : State) : Result := .next (plpOp s)

/-! PLX (R272) -/
/-- `PLX`, opcode FA (R272, R127). -/
def execPlx (s : State) : Result := .next (pullOp s.regs.wX Regs.resultX s)

/-! PLY (R273) -/
/-- `PLY`, opcode 7A (R273, R127). -/
def execPly (s : State) : Result := .next (pullOp s.regs.wX Regs.resultY s)

/-! PEA (R274) -/
/-- `PEA`, opcode F4 (R274, R127). -/
def execPea (a : Word) (s : State) : Result := .next (pushWordOp 3 a s)

/-! PEI (R275) -/
/-- `PEI`, opcode D4 (R275, R127). -/
def execPei (o : Byte) (s : State) : Result := .next (peiOp o s)

/-! PER (R276) -/
/-- `PER`, opcode 62 (R276, R127). -/
def execPer (off : Word) (s : State) : Result := .next (pushWordOp 3 (s.regs.pc + 3 + off) s)

/-! BRK (R277) -/
/-- `BRK`, opcode 00 (R277, R127). -/
def execBrk (_ : Byte) (s : State) : Result := .next (brkOp s)

/-! COP (R278) -/
/-- `COP`, opcode 02 (R278, R127). -/
def execCop (_ : Byte) (s : State) : Result := .next (copOp s)

/-! RTI (R279) -/
/-- `RTI`, opcode 40 (R279, R127). -/
def execRti (s : State) : Result := .next (returnFromInterrupt s)

/-! RTL (R280) -/
/-- `RTL`, opcode 6B (R280, R127). -/
def execRtl (s : State) : Result := .next (rtlOp s)

/-! RTS (R281) -/
/-- `RTS`, opcode 60 (R281, R127). -/
def execRts (s : State) : Result := .next (rtsOp s)

end Sys2Proof.Machine
end

