-- ==== Sys2Proof/Machine/Dispatch.lean ====
section
/-! DEFINITION. One arm per constructor of `Instr`: the meaning of every instruction. -/

namespace Sys2Proof.Machine

def exec (i : Instr) (s : State) : Host.Outcome State Fault Refusal :=
  match i with
  -- Group 1, accumulator and memory
  | .adcImm v => Sys2Proof.Machine.execAdcImm v s
  | .adcAbs a => Sys2Proof.Machine.execAdcAbs a s
  | .adcLong a => Sys2Proof.Machine.execAdcLong a s
  | .adcDp o => Sys2Proof.Machine.execAdcDp o s
  | .adcDpX o => Sys2Proof.Machine.execAdcDpX o s
  | .adcAbsX a => Sys2Proof.Machine.execAdcAbsX a s
  | .adcAbsY a => Sys2Proof.Machine.execAdcAbsY a s
  | .adcLongX a => Sys2Proof.Machine.execAdcLongX a s
  | .adcSr o => Sys2Proof.Machine.execAdcSr o s
  | .adcDpXInd o => Sys2Proof.Machine.execAdcDpXInd o s
  | .adcDpIndY o => Sys2Proof.Machine.execAdcDpIndY o s
  | .adcDpLongIndY o => Sys2Proof.Machine.execAdcDpLongIndY o s
  | .adcSrIndY o => Sys2Proof.Machine.execAdcSrIndY o s
  | .adcDpInd o => Sys2Proof.Machine.execAdcDpInd o s
  | .adcDpLongInd o => Sys2Proof.Machine.execAdcDpLongInd o s
  | .andImm v => Sys2Proof.Machine.execAndImm v s
  | .andAbs a => Sys2Proof.Machine.execAndAbs a s
  | .andLong a => Sys2Proof.Machine.execAndLong a s
  | .andDp o => Sys2Proof.Machine.execAndDp o s
  | .andDpX o => Sys2Proof.Machine.execAndDpX o s
  | .andAbsX a => Sys2Proof.Machine.execAndAbsX a s
  | .andAbsY a => Sys2Proof.Machine.execAndAbsY a s
  | .andLongX a => Sys2Proof.Machine.execAndLongX a s
  | .andSr o => Sys2Proof.Machine.execAndSr o s
  | .andDpXInd o => Sys2Proof.Machine.execAndDpXInd o s
  | .andDpIndY o => Sys2Proof.Machine.execAndDpIndY o s
  | .andDpLongIndY o => Sys2Proof.Machine.execAndDpLongIndY o s
  | .andSrIndY o => Sys2Proof.Machine.execAndSrIndY o s
  | .andDpInd o => Sys2Proof.Machine.execAndDpInd o s
  | .andDpLongInd o => Sys2Proof.Machine.execAndDpLongInd o s
  | .cmpImm v => Sys2Proof.Machine.execCmpImm v s
  | .cmpAbs a => Sys2Proof.Machine.execCmpAbs a s
  | .cmpLong a => Sys2Proof.Machine.execCmpLong a s
  | .cmpDp o => Sys2Proof.Machine.execCmpDp o s
  | .cmpDpX o => Sys2Proof.Machine.execCmpDpX o s
  | .cmpAbsX a => Sys2Proof.Machine.execCmpAbsX a s
  | .cmpAbsY a => Sys2Proof.Machine.execCmpAbsY a s
  | .cmpLongX a => Sys2Proof.Machine.execCmpLongX a s
  | .cmpSr o => Sys2Proof.Machine.execCmpSr o s
  | .cmpDpXInd o => Sys2Proof.Machine.execCmpDpXInd o s
  | .cmpDpIndY o => Sys2Proof.Machine.execCmpDpIndY o s
  | .cmpDpLongIndY o => Sys2Proof.Machine.execCmpDpLongIndY o s
  | .cmpSrIndY o => Sys2Proof.Machine.execCmpSrIndY o s
  | .cmpDpInd o => Sys2Proof.Machine.execCmpDpInd o s
  | .cmpDpLongInd o => Sys2Proof.Machine.execCmpDpLongInd o s
  | .eorImm v => Sys2Proof.Machine.execEorImm v s
  | .eorAbs a => Sys2Proof.Machine.execEorAbs a s
  | .eorLong a => Sys2Proof.Machine.execEorLong a s
  | .eorDp o => Sys2Proof.Machine.execEorDp o s
  | .eorDpX o => Sys2Proof.Machine.execEorDpX o s
  | .eorAbsX a => Sys2Proof.Machine.execEorAbsX a s
  | .eorAbsY a => Sys2Proof.Machine.execEorAbsY a s
  | .eorLongX a => Sys2Proof.Machine.execEorLongX a s
  | .eorSr o => Sys2Proof.Machine.execEorSr o s
  | .eorDpXInd o => Sys2Proof.Machine.execEorDpXInd o s
  | .eorDpIndY o => Sys2Proof.Machine.execEorDpIndY o s
  | .eorDpLongIndY o => Sys2Proof.Machine.execEorDpLongIndY o s
  | .eorSrIndY o => Sys2Proof.Machine.execEorSrIndY o s
  | .eorDpInd o => Sys2Proof.Machine.execEorDpInd o s
  | .eorDpLongInd o => Sys2Proof.Machine.execEorDpLongInd o s
  | .ldaImm v => Sys2Proof.Machine.execLdaImm v s
  | .ldaAbs a => Sys2Proof.Machine.execLdaAbs a s
  | .ldaLong a => Sys2Proof.Machine.execLdaLong a s
  | .ldaDp o => Sys2Proof.Machine.execLdaDp o s
  | .ldaDpX o => Sys2Proof.Machine.execLdaDpX o s
  | .ldaAbsX a => Sys2Proof.Machine.execLdaAbsX a s
  | .ldaAbsY a => Sys2Proof.Machine.execLdaAbsY a s
  | .ldaLongX a => Sys2Proof.Machine.execLdaLongX a s
  | .ldaSr o => Sys2Proof.Machine.execLdaSr o s
  | .ldaDpXInd o => Sys2Proof.Machine.execLdaDpXInd o s
  | .ldaDpIndY o => Sys2Proof.Machine.execLdaDpIndY o s
  | .ldaDpLongIndY o => Sys2Proof.Machine.execLdaDpLongIndY o s
  | .ldaSrIndY o => Sys2Proof.Machine.execLdaSrIndY o s
  | .ldaDpInd o => Sys2Proof.Machine.execLdaDpInd o s
  | .ldaDpLongInd o => Sys2Proof.Machine.execLdaDpLongInd o s
  | .oraImm v => Sys2Proof.Machine.execOraImm v s
  | .oraAbs a => Sys2Proof.Machine.execOraAbs a s
  | .oraLong a => Sys2Proof.Machine.execOraLong a s
  | .oraDp o => Sys2Proof.Machine.execOraDp o s
  | .oraDpX o => Sys2Proof.Machine.execOraDpX o s
  | .oraAbsX a => Sys2Proof.Machine.execOraAbsX a s
  | .oraAbsY a => Sys2Proof.Machine.execOraAbsY a s
  | .oraLongX a => Sys2Proof.Machine.execOraLongX a s
  | .oraSr o => Sys2Proof.Machine.execOraSr o s
  | .oraDpXInd o => Sys2Proof.Machine.execOraDpXInd o s
  | .oraDpIndY o => Sys2Proof.Machine.execOraDpIndY o s
  | .oraDpLongIndY o => Sys2Proof.Machine.execOraDpLongIndY o s
  | .oraSrIndY o => Sys2Proof.Machine.execOraSrIndY o s
  | .oraDpInd o => Sys2Proof.Machine.execOraDpInd o s
  | .oraDpLongInd o => Sys2Proof.Machine.execOraDpLongInd o s
  | .sbcImm v => Sys2Proof.Machine.execSbcImm v s
  | .sbcAbs a => Sys2Proof.Machine.execSbcAbs a s
  | .sbcLong a => Sys2Proof.Machine.execSbcLong a s
  | .sbcDp o => Sys2Proof.Machine.execSbcDp o s
  | .sbcDpX o => Sys2Proof.Machine.execSbcDpX o s
  | .sbcAbsX a => Sys2Proof.Machine.execSbcAbsX a s
  | .sbcAbsY a => Sys2Proof.Machine.execSbcAbsY a s
  | .sbcLongX a => Sys2Proof.Machine.execSbcLongX a s
  | .sbcSr o => Sys2Proof.Machine.execSbcSr o s
  | .sbcDpXInd o => Sys2Proof.Machine.execSbcDpXInd o s
  | .sbcDpIndY o => Sys2Proof.Machine.execSbcDpIndY o s
  | .sbcDpLongIndY o => Sys2Proof.Machine.execSbcDpLongIndY o s
  | .sbcSrIndY o => Sys2Proof.Machine.execSbcSrIndY o s
  | .sbcDpInd o => Sys2Proof.Machine.execSbcDpInd o s
  | .sbcDpLongInd o => Sys2Proof.Machine.execSbcDpLongInd o s
  | .staAbs a => Sys2Proof.Machine.execStaAbs a s
  | .staLong a => Sys2Proof.Machine.execStaLong a s
  | .staDp o => Sys2Proof.Machine.execStaDp o s
  | .staDpX o => Sys2Proof.Machine.execStaDpX o s
  | .staAbsX a => Sys2Proof.Machine.execStaAbsX a s
  | .staAbsY a => Sys2Proof.Machine.execStaAbsY a s
  | .staLongX a => Sys2Proof.Machine.execStaLongX a s
  | .staSr o => Sys2Proof.Machine.execStaSr o s
  | .staDpXInd o => Sys2Proof.Machine.execStaDpXInd o s
  | .staDpIndY o => Sys2Proof.Machine.execStaDpIndY o s
  | .staDpLongIndY o => Sys2Proof.Machine.execStaDpLongIndY o s
  | .staSrIndY o => Sys2Proof.Machine.execStaSrIndY o s
  | .staDpInd o => Sys2Proof.Machine.execStaDpInd o s
  | .staDpLongInd o => Sys2Proof.Machine.execStaDpLongInd o s
  -- Group 2, bit test, shifts, counts, status bits
  | .bitImm v => Sys2Proof.Machine.execBitImm v s
  | .bitAbs a => Sys2Proof.Machine.execBitAbs a s
  | .bitDp o => Sys2Proof.Machine.execBitDp o s
  | .bitDpX o => Sys2Proof.Machine.execBitDpX o s
  | .bitAbsX a => Sys2Proof.Machine.execBitAbsX a s
  | .rorAbs a => Sys2Proof.Machine.execRorAbs a s
  | .rorDp o => Sys2Proof.Machine.execRorDp o s
  | .rorAcc => Sys2Proof.Machine.execRorAcc s
  | .rorDpX o => Sys2Proof.Machine.execRorDpX o s
  | .rorAbsX a => Sys2Proof.Machine.execRorAbsX a s
  | .aslAbs a => Sys2Proof.Machine.execAslAbs a s
  | .aslDp o => Sys2Proof.Machine.execAslDp o s
  | .aslAcc => Sys2Proof.Machine.execAslAcc s
  | .aslDpX o => Sys2Proof.Machine.execAslDpX o s
  | .aslAbsX a => Sys2Proof.Machine.execAslAbsX a s
  | .lsrAbs a => Sys2Proof.Machine.execLsrAbs a s
  | .lsrDp o => Sys2Proof.Machine.execLsrDp o s
  | .lsrAcc => Sys2Proof.Machine.execLsrAcc s
  | .lsrDpX o => Sys2Proof.Machine.execLsrDpX o s
  | .lsrAbsX a => Sys2Proof.Machine.execLsrAbsX a s
  | .rolAbs a => Sys2Proof.Machine.execRolAbs a s
  | .rolDp o => Sys2Proof.Machine.execRolDp o s
  | .rolAcc => Sys2Proof.Machine.execRolAcc s
  | .rolDpX o => Sys2Proof.Machine.execRolDpX o s
  | .rolAbsX a => Sys2Proof.Machine.execRolAbsX a s
  | .incAbs a => Sys2Proof.Machine.execIncAbs a s
  | .incDp o => Sys2Proof.Machine.execIncDp o s
  | .incAcc => Sys2Proof.Machine.execIncAcc s
  | .incDpX o => Sys2Proof.Machine.execIncDpX o s
  | .incAbsX a => Sys2Proof.Machine.execIncAbsX a s
  | .decAbs a => Sys2Proof.Machine.execDecAbs a s
  | .decDp o => Sys2Proof.Machine.execDecDp o s
  | .decAcc => Sys2Proof.Machine.execDecAcc s
  | .decDpX o => Sys2Proof.Machine.execDecDpX o s
  | .decAbsX a => Sys2Proof.Machine.execDecAbsX a s
  | .rep imm => Sys2Proof.Machine.execRep imm s
  | .sep imm => Sys2Proof.Machine.execSep imm s
  | .trbAbs a => Sys2Proof.Machine.execTrbAbs a s
  | .trbDp o => Sys2Proof.Machine.execTrbDp o s
  | .tsbAbs a => Sys2Proof.Machine.execTsbAbs a s
  | .tsbDp o => Sys2Proof.Machine.execTsbDp o s
  -- Group 3, index registers and memory
  | .ldxImm v => Sys2Proof.Machine.execLdxImm v s
  | .ldxAbs a => Sys2Proof.Machine.execLdxAbs a s
  | .ldxDp o => Sys2Proof.Machine.execLdxDp o s
  | .ldxDpY o => Sys2Proof.Machine.execLdxDpY o s
  | .ldxAbsY a => Sys2Proof.Machine.execLdxAbsY a s
  | .ldyImm v => Sys2Proof.Machine.execLdyImm v s
  | .ldyAbs a => Sys2Proof.Machine.execLdyAbs a s
  | .ldyDp o => Sys2Proof.Machine.execLdyDp o s
  | .ldyDpX o => Sys2Proof.Machine.execLdyDpX o s
  | .ldyAbsX a => Sys2Proof.Machine.execLdyAbsX a s
  | .cpxImm v => Sys2Proof.Machine.execCpxImm v s
  | .cpxAbs a => Sys2Proof.Machine.execCpxAbs a s
  | .cpxDp o => Sys2Proof.Machine.execCpxDp o s
  | .cpyImm v => Sys2Proof.Machine.execCpyImm v s
  | .cpyAbs a => Sys2Proof.Machine.execCpyAbs a s
  | .cpyDp o => Sys2Proof.Machine.execCpyDp o s
  | .stxAbs a => Sys2Proof.Machine.execStxAbs a s
  | .stxDp o => Sys2Proof.Machine.execStxDp o s
  | .stxDpY o => Sys2Proof.Machine.execStxDpY o s
  | .styAbs a => Sys2Proof.Machine.execStyAbs a s
  | .styDp o => Sys2Proof.Machine.execStyDp o s
  | .styDpX o => Sys2Proof.Machine.execStyDpX o s
  | .stzAbs a => Sys2Proof.Machine.execStzAbs a s
  | .stzDp o => Sys2Proof.Machine.execStzDp o s
  | .stzDpX o => Sys2Proof.Machine.execStzDpX o s
  | .stzAbsX a => Sys2Proof.Machine.execStzAbsX a s
  -- Group 4, implied
  | .inx => Sys2Proof.Machine.execInx s
  | .iny => Sys2Proof.Machine.execIny s
  | .dex => Sys2Proof.Machine.execDex s
  | .dey => Sys2Proof.Machine.execDey s
  | .tax => Sys2Proof.Machine.execTax s
  | .tay => Sys2Proof.Machine.execTay s
  | .tsx => Sys2Proof.Machine.execTsx s
  | .txa => Sys2Proof.Machine.execTxa s
  | .txs => Sys2Proof.Machine.execTxs s
  | .txy => Sys2Proof.Machine.execTxy s
  | .tya => Sys2Proof.Machine.execTya s
  | .tyx => Sys2Proof.Machine.execTyx s
  | .clc => Sys2Proof.Machine.execClc s
  | .cld => Sys2Proof.Machine.execCld s
  | .cli => Sys2Proof.Machine.execCli s
  | .clv => Sys2Proof.Machine.execClv s
  | .sec => Sys2Proof.Machine.execSec s
  | .sed => Sys2Proof.Machine.execSed s
  | .sei => Sys2Proof.Machine.execSei s
  | .tcd => Sys2Proof.Machine.execTcd s
  | .tcs => Sys2Proof.Machine.execTcs s
  | .tdc => Sys2Proof.Machine.execTdc s
  | .tsc => Sys2Proof.Machine.execTsc s
  | .xba => Sys2Proof.Machine.execXba s
  | .xce => Sys2Proof.Machine.execXce s
  | .stp => Sys2Proof.Machine.execStp s
  | .wai => Sys2Proof.Machine.execWai s
  | .wdm sig => Sys2Proof.Machine.execWdm sig s
  | .nop => Sys2Proof.Machine.execNop s
  -- Group 5, stack
  | .pha => Sys2Proof.Machine.execPha s
  | .phb => Sys2Proof.Machine.execPhb s
  | .phd => Sys2Proof.Machine.execPhd s
  | .phk => Sys2Proof.Machine.execPhk s
  | .php => Sys2Proof.Machine.execPhp s
  | .phx => Sys2Proof.Machine.execPhx s
  | .phy => Sys2Proof.Machine.execPhy s
  | .pla => Sys2Proof.Machine.execPla s
  | .plb => Sys2Proof.Machine.execPlb s
  | .pld => Sys2Proof.Machine.execPld s
  | .plp => Sys2Proof.Machine.execPlp s
  | .plx => Sys2Proof.Machine.execPlx s
  | .ply => Sys2Proof.Machine.execPly s
  | .pea a => Sys2Proof.Machine.execPea a s
  | .pei o => Sys2Proof.Machine.execPei o s
  | .per off => Sys2Proof.Machine.execPer off s
  | .brk sig => Sys2Proof.Machine.execBrk sig s
  | .cop sig => Sys2Proof.Machine.execCop sig s
  | .rti => Sys2Proof.Machine.execRti s
  | .rtl => Sys2Proof.Machine.execRtl s
  | .rts => Sys2Proof.Machine.execRts s
  -- Group 6, relative branches
  | .bcc off => Sys2Proof.Machine.execBcc off s
  | .bcs off => Sys2Proof.Machine.execBcs off s
  | .beq off => Sys2Proof.Machine.execBeq off s
  | .bmi off => Sys2Proof.Machine.execBmi off s
  | .bne off => Sys2Proof.Machine.execBne off s
  | .bpl off => Sys2Proof.Machine.execBpl off s
  | .bra off => Sys2Proof.Machine.execBra off s
  | .brl off => Sys2Proof.Machine.execBrl off s
  | .bvc off => Sys2Proof.Machine.execBvc off s
  | .bvs off => Sys2Proof.Machine.execBvs off s
  -- Group 7, jumps and calls
  | .jml a => Sys2Proof.Machine.execJml a s
  | .jmpAbs a => Sys2Proof.Machine.execJmpAbs a s
  | .jmpLong a => Sys2Proof.Machine.execJmpLong a s
  | .jmpAbsInd a => Sys2Proof.Machine.execJmpAbsInd a s
  | .jmpAbsXInd a => Sys2Proof.Machine.execJmpAbsXInd a s
  | .jsl a => Sys2Proof.Machine.execJsl a s
  | .jsrAbs a => Sys2Proof.Machine.execJsrAbs a s
  | .jsrAbsXInd a => Sys2Proof.Machine.execJsrAbsXInd a s
  -- Group 8, block moves
  | .mvn dst src => Sys2Proof.Machine.execMvn dst src s
  | .mvp dst src => Sys2Proof.Machine.execMvp dst src s

end Sys2Proof.Machine
end

