-- ==== Sys2Proof/WellFormed.lean ====
section
/-! DEFINITION. Which instructions an encoding can hold under given M and X flags. -/

namespace Sys2Proof

/-- An immediate fits the width its flag selects (R93, R94, R121): 1 is 8 bits. -/
def fitsWidth (flag : Bool) (v : Word) : Bool := !flag || decide (v.toNat < 256)

/-- Every operand value is legal (R97); only an immediate of a width-dependent form must fit the current width:
M for ORA AND EOR ADC BIT LDA CMP SBC, X for LDY LDX CPY CPX (R93). -/
def Instr.wellFormed (m x : Bool) : Instr → Bool
  | .oraImm v => fitsWidth m v
  | .andImm v => fitsWidth m v
  | .eorImm v => fitsWidth m v
  | .adcImm v => fitsWidth m v
  | .bitImm v => fitsWidth m v
  | .ldaImm v => fitsWidth m v
  | .cmpImm v => fitsWidth m v
  | .sbcImm v => fitsWidth m v
  | .ldyImm v => fitsWidth x v
  | .ldxImm v => fitsWidth x v
  | .cpyImm v => fitsWidth x v
  | .cpxImm v => fitsWidth x v
  | _ => true

end Sys2Proof
end

