-- ==== Sys2Proof/Decode.lean ====
section
/-! DEFINITION. The decoder (R90 to R95) and the encoder (R94, R96). The decoder reads the opcode matrix of R95, the
encoder the prose lists of R96; that they agree is a theorem. -/

namespace Sys2Proof

open Machine (lo hi word bankAddr bankOf offsetOf)

/-! ### The opcode matrix (R95) with the formats (R91) and the operands they assemble (R94) -/

/-- One cell of the matrix: the format and the instruction made of the operand. -/
inductive Row where
  | f1 (i : Instr)
  | f2 (k : Byte → Instr)
  | f3 (k : Word → Instr)
  | f3b (k : Byte → Byte → Instr)
  | f4 (k : Addr → Instr)
  | fm (k : Word → Instr)
  | fx (k : Word → Instr)

/-- How many operand bytes follow the opcode under the current M and X flags (R91, R93). -/
def Row.operandCount (m x : Bool) : Row → Nat
  | .f1 _ => 0
  | .f2 _ => 1
  | .f3 _ => 2
  | .f3b _ => 2
  | .f4 _ => 3
  | .fm _ => if m then 1 else 2
  | .fx _ => if x then 1 else 2

/-- An immediate of a width-dependent form (R94). -/
def immediate (flag : Bool) (b1 b2 : Byte) : Word := if flag then word 0x00#8 b1 else word b2 b1

/-- The instruction of the operand bytes (R94). -/
def Row.build (m x : Bool) (b1 b2 b3 : Byte) : Row → Instr
  | .f1 i => i
  | .f2 k => k b1
  | .f3 k => k (word b2 b1)
  | .f3b k => k b1 b2
  | .f4 k => k (bankAddr b3 (word b2 b1))
  | .fm k => k (immediate m b1 b2)
  | .fx k => k (immediate x b1 b2)

/-- Row 0 of the matrix (R95): the opcodes 00 to 0F. -/
def opRow0 : List Row :=
  [.f2 .brk, .f2 .oraDpXInd, .f2 .cop, .f2 .oraSr,
   .f2 .tsbDp, .f2 .oraDp, .f2 .aslDp, .f2 .oraDpLongInd,
   .f1 .php, .fm .oraImm, .f1 .aslAcc, .f1 .phd,
   .f3 .tsbAbs, .f3 .oraAbs, .f3 .aslAbs, .f4 .oraLong]

/-- Row 1 of the matrix (R95): the opcodes 10 to 1F. -/
def opRow1 : List Row :=
  [.f2 .bpl, .f2 .oraDpIndY, .f2 .oraDpInd, .f2 .oraSrIndY,
   .f2 .trbDp, .f2 .oraDpX, .f2 .aslDpX, .f2 .oraDpLongIndY,
   .f1 .clc, .f3 .oraAbsY, .f1 .incAcc, .f1 .tcs,
   .f3 .trbAbs, .f3 .oraAbsX, .f3 .aslAbsX, .f4 .oraLongX]

/-- Row 2 of the matrix (R95): the opcodes 20 to 2F. -/
def opRow2 : List Row :=
  [.f3 .jsrAbs, .f2 .andDpXInd, .f4 .jsl, .f2 .andSr,
   .f2 .bitDp, .f2 .andDp, .f2 .rolDp, .f2 .andDpLongInd,
   .f1 .plp, .fm .andImm, .f1 .rolAcc, .f1 .pld,
   .f3 .bitAbs, .f3 .andAbs, .f3 .rolAbs, .f4 .andLong]

/-- Row 3 of the matrix (R95): the opcodes 30 to 3F. -/
def opRow3 : List Row :=
  [.f2 .bmi, .f2 .andDpIndY, .f2 .andDpInd, .f2 .andSrIndY,
   .f2 .bitDpX, .f2 .andDpX, .f2 .rolDpX, .f2 .andDpLongIndY,
   .f1 .sec, .f3 .andAbsY, .f1 .decAcc, .f1 .tsc,
   .f3 .bitAbsX, .f3 .andAbsX, .f3 .rolAbsX, .f4 .andLongX]

/-- Row 4 of the matrix (R95): the opcodes 40 to 4F. -/
def opRow4 : List Row :=
  [.f1 .rti, .f2 .eorDpXInd, .f2 .wdm, .f2 .eorSr,
   .f3b .mvp, .f2 .eorDp, .f2 .lsrDp, .f2 .eorDpLongInd,
   .f1 .pha, .fm .eorImm, .f1 .lsrAcc, .f1 .phk,
   .f3 .jmpAbs, .f3 .eorAbs, .f3 .lsrAbs, .f4 .eorLong]

/-- Row 5 of the matrix (R95): the opcodes 50 to 5F. -/
def opRow5 : List Row :=
  [.f2 .bvc, .f2 .eorDpIndY, .f2 .eorDpInd, .f2 .eorSrIndY,
   .f3b .mvn, .f2 .eorDpX, .f2 .lsrDpX, .f2 .eorDpLongIndY,
   .f1 .cli, .f3 .eorAbsY, .f1 .phy, .f1 .tcd,
   .f4 .jmpLong, .f3 .eorAbsX, .f3 .lsrAbsX, .f4 .eorLongX]

/-- Row 6 of the matrix (R95): the opcodes 60 to 6F. -/
def opRow6 : List Row :=
  [.f1 .rts, .f2 .adcDpXInd, .f3 .per, .f2 .adcSr,
   .f2 .stzDp, .f2 .adcDp, .f2 .rorDp, .f2 .adcDpLongInd,
   .f1 .pla, .fm .adcImm, .f1 .rorAcc, .f1 .rtl,
   .f3 .jmpAbsInd, .f3 .adcAbs, .f3 .rorAbs, .f4 .adcLong]

/-- Row 7 of the matrix (R95): the opcodes 70 to 7F. -/
def opRow7 : List Row :=
  [.f2 .bvs, .f2 .adcDpIndY, .f2 .adcDpInd, .f2 .adcSrIndY,
   .f2 .stzDpX, .f2 .adcDpX, .f2 .rorDpX, .f2 .adcDpLongIndY,
   .f1 .sei, .f3 .adcAbsY, .f1 .ply, .f1 .tdc,
   .f3 .jmpAbsXInd, .f3 .adcAbsX, .f3 .rorAbsX, .f4 .adcLongX]

/-- Row 8 of the matrix (R95): the opcodes 80 to 8F. -/
def opRow8 : List Row :=
  [.f2 .bra, .f2 .staDpXInd, .f3 .brl, .f2 .staSr,
   .f2 .styDp, .f2 .staDp, .f2 .stxDp, .f2 .staDpLongInd,
   .f1 .dey, .fm .bitImm, .f1 .txa, .f1 .phb,
   .f3 .styAbs, .f3 .staAbs, .f3 .stxAbs, .f4 .staLong]

/-- Row 9 of the matrix (R95): the opcodes 90 to 9F. -/
def opRow9 : List Row :=
  [.f2 .bcc, .f2 .staDpIndY, .f2 .staDpInd, .f2 .staSrIndY,
   .f2 .styDpX, .f2 .staDpX, .f2 .stxDpY, .f2 .staDpLongIndY,
   .f1 .tya, .f3 .staAbsY, .f1 .txs, .f1 .txy,
   .f3 .stzAbs, .f3 .staAbsX, .f3 .stzAbsX, .f4 .staLongX]

/-- Row A of the matrix (R95): the opcodes A0 to AF. -/
def opRowA : List Row :=
  [.fx .ldyImm, .f2 .ldaDpXInd, .fx .ldxImm, .f2 .ldaSr,
   .f2 .ldyDp, .f2 .ldaDp, .f2 .ldxDp, .f2 .ldaDpLongInd,
   .f1 .tay, .fm .ldaImm, .f1 .tax, .f1 .plb,
   .f3 .ldyAbs, .f3 .ldaAbs, .f3 .ldxAbs, .f4 .ldaLong]

/-- Row B of the matrix (R95): the opcodes B0 to BF. -/
def opRowB : List Row :=
  [.f2 .bcs, .f2 .ldaDpIndY, .f2 .ldaDpInd, .f2 .ldaSrIndY,
   .f2 .ldyDpX, .f2 .ldaDpX, .f2 .ldxDpY, .f2 .ldaDpLongIndY,
   .f1 .clv, .f3 .ldaAbsY, .f1 .tsx, .f1 .tyx,
   .f3 .ldyAbsX, .f3 .ldaAbsX, .f3 .ldxAbsY, .f4 .ldaLongX]

/-- Row C of the matrix (R95): the opcodes C0 to CF. -/
def opRowC : List Row :=
  [.fx .cpyImm, .f2 .cmpDpXInd, .f2 .rep, .f2 .cmpSr,
   .f2 .cpyDp, .f2 .cmpDp, .f2 .decDp, .f2 .cmpDpLongInd,
   .f1 .iny, .fm .cmpImm, .f1 .dex, .f1 .wai,
   .f3 .cpyAbs, .f3 .cmpAbs, .f3 .decAbs, .f4 .cmpLong]

/-- Row D of the matrix (R95): the opcodes D0 to DF. -/
def opRowD : List Row :=
  [.f2 .bne, .f2 .cmpDpIndY, .f2 .cmpDpInd, .f2 .cmpSrIndY,
   .f2 .pei, .f2 .cmpDpX, .f2 .decDpX, .f2 .cmpDpLongIndY,
   .f1 .cld, .f3 .cmpAbsY, .f1 .phx, .f1 .stp,
   .f3 .jml, .f3 .cmpAbsX, .f3 .decAbsX, .f4 .cmpLongX]

/-- Row E of the matrix (R95): the opcodes E0 to EF. -/
def opRowE : List Row :=
  [.fx .cpxImm, .f2 .sbcDpXInd, .f2 .sep, .f2 .sbcSr,
   .f2 .cpxDp, .f2 .sbcDp, .f2 .incDp, .f2 .sbcDpLongInd,
   .f1 .inx, .fm .sbcImm, .f1 .nop, .f1 .xba,
   .f3 .cpxAbs, .f3 .sbcAbs, .f3 .incAbs, .f4 .sbcLong]

/-- Row F of the matrix (R95): the opcodes F0 to FF. -/
def opRowF : List Row :=
  [.f2 .beq, .f2 .sbcDpIndY, .f2 .sbcDpInd, .f2 .sbcSrIndY,
   .f3 .pea, .f2 .sbcDpX, .f2 .incDpX, .f2 .sbcDpLongIndY,
   .f1 .sed, .f3 .sbcAbsY, .f1 .plx, .f1 .xce,
   .f3 .jsrAbsXInd, .f3 .sbcAbsX, .f3 .incAbsX, .f4 .sbcLongX]

/-- The matrix of R95: one row for each high digit. -/
def opMatrix : List (List Row) :=
  [opRow0, opRow1, opRow2, opRow3, opRow4, opRow5, opRow6, opRow7,
   opRow8, opRow9, opRowA, opRowB, opRowC, opRowD, opRowE, opRowF]

/-- The cell of an opcode: row = high digit, column = low digit (R95). All 256 are there (R90). -/
def opRow (op : Byte) : Row :=
  (opMatrix.getD (op.toNat / 16) []).getD (op.toNat % 16) (.f1 .nop)

/-- The instruction length, opcode included (R93). -/
def instrLength (m x : Bool) (op : Byte) : Nat := 1 + (opRow op).operandCount m x

/-- Why a list of bytes holds no instruction. No opcode is illegal (R90, R97), so bytes can only be too few. -/
inductive DecodeError where
  /-- There is no byte at all. -/
  | noOpcode
  /-- Operand bytes of this opcode are missing. -/
  | truncated (opcode : Byte)
deriving DecidableEq, Repr

/-- Decode the first instruction of a list of bytes under the current M and X flags, and give the rest of the list. -/
def decode (m x : Bool) : List Byte → Except DecodeError (Instr × List Byte)
  | [] => .error .noOpcode
  | op :: rest =>
    let n := (opRow op).operandCount m x
    if rest.length < n then .error (.truncated op)
    else .ok ((opRow op).build m x (rest.getD 0 0x00#8) (rest.getD 1 0x00#8) (rest.getD 2 0x00#8), rest.drop n)

/-! ### The encoding of an instruction (R96), and the encoder -/

/-- The operand bytes of an instruction, by format (R91). -/
inductive OperandBytes where
  | none
  | byte (b : Byte)
  | word (a : Word)
  | banks (dst src : Byte)
  | long (a : Addr)
  | immM (v : Word)
  | immX (v : Word)
deriving DecidableEq, Repr

/-- What the opcode lists of R96 say of an instruction. -/
structure Coding where
  mnemonic : Mnemonic
  mode     : Mode
  opcode   : Byte
  operands : OperandBytes
deriving DecidableEq, Repr

/-- The opcode lists of R96, in the manual's order. -/
def Instr.coding : Instr → Coding
  -- Group 1, accumulator and memory
  | .adcImm v => ⟨.adc, .immediate, 0x69#8, (.immM v)⟩
  | .adcAbs a => ⟨.adc, .absolute, 0x6D#8, (.word a)⟩
  | .adcLong a => ⟨.adc, .absoluteLong, 0x6F#8, (.long a)⟩
  | .adcDp o => ⟨.adc, .direct, 0x65#8, (.byte o)⟩
  | .adcDpX o => ⟨.adc, .directX, 0x75#8, (.byte o)⟩
  | .adcAbsX a => ⟨.adc, .absoluteX, 0x7D#8, (.word a)⟩
  | .adcAbsY a => ⟨.adc, .absoluteY, 0x79#8, (.word a)⟩
  | .adcLongX a => ⟨.adc, .absoluteLongX, 0x7F#8, (.long a)⟩
  | .adcSr o => ⟨.adc, .stackRelative, 0x63#8, (.byte o)⟩
  | .adcDpXInd o => ⟨.adc, .directXIndirect, 0x61#8, (.byte o)⟩
  | .adcDpIndY o => ⟨.adc, .directIndirectY, 0x71#8, (.byte o)⟩
  | .adcDpLongIndY o => ⟨.adc, .directIndirectLongY, 0x77#8, (.byte o)⟩
  | .adcSrIndY o => ⟨.adc, .stackRelativeIndirectY, 0x73#8, (.byte o)⟩
  | .adcDpInd o => ⟨.adc, .directIndirect, 0x72#8, (.byte o)⟩
  | .adcDpLongInd o => ⟨.adc, .directIndirectLong, 0x67#8, (.byte o)⟩
  | .andImm v => ⟨.and, .immediate, 0x29#8, (.immM v)⟩
  | .andAbs a => ⟨.and, .absolute, 0x2D#8, (.word a)⟩
  | .andLong a => ⟨.and, .absoluteLong, 0x2F#8, (.long a)⟩
  | .andDp o => ⟨.and, .direct, 0x25#8, (.byte o)⟩
  | .andDpX o => ⟨.and, .directX, 0x35#8, (.byte o)⟩
  | .andAbsX a => ⟨.and, .absoluteX, 0x3D#8, (.word a)⟩
  | .andAbsY a => ⟨.and, .absoluteY, 0x39#8, (.word a)⟩
  | .andLongX a => ⟨.and, .absoluteLongX, 0x3F#8, (.long a)⟩
  | .andSr o => ⟨.and, .stackRelative, 0x23#8, (.byte o)⟩
  | .andDpXInd o => ⟨.and, .directXIndirect, 0x21#8, (.byte o)⟩
  | .andDpIndY o => ⟨.and, .directIndirectY, 0x31#8, (.byte o)⟩
  | .andDpLongIndY o => ⟨.and, .directIndirectLongY, 0x37#8, (.byte o)⟩
  | .andSrIndY o => ⟨.and, .stackRelativeIndirectY, 0x33#8, (.byte o)⟩
  | .andDpInd o => ⟨.and, .directIndirect, 0x32#8, (.byte o)⟩
  | .andDpLongInd o => ⟨.and, .directIndirectLong, 0x27#8, (.byte o)⟩
  | .cmpImm v => ⟨.cmp, .immediate, 0xC9#8, (.immM v)⟩
  | .cmpAbs a => ⟨.cmp, .absolute, 0xCD#8, (.word a)⟩
  | .cmpLong a => ⟨.cmp, .absoluteLong, 0xCF#8, (.long a)⟩
  | .cmpDp o => ⟨.cmp, .direct, 0xC5#8, (.byte o)⟩
  | .cmpDpX o => ⟨.cmp, .directX, 0xD5#8, (.byte o)⟩
  | .cmpAbsX a => ⟨.cmp, .absoluteX, 0xDD#8, (.word a)⟩
  | .cmpAbsY a => ⟨.cmp, .absoluteY, 0xD9#8, (.word a)⟩
  | .cmpLongX a => ⟨.cmp, .absoluteLongX, 0xDF#8, (.long a)⟩
  | .cmpSr o => ⟨.cmp, .stackRelative, 0xC3#8, (.byte o)⟩
  | .cmpDpXInd o => ⟨.cmp, .directXIndirect, 0xC1#8, (.byte o)⟩
  | .cmpDpIndY o => ⟨.cmp, .directIndirectY, 0xD1#8, (.byte o)⟩
  | .cmpDpLongIndY o => ⟨.cmp, .directIndirectLongY, 0xD7#8, (.byte o)⟩
  | .cmpSrIndY o => ⟨.cmp, .stackRelativeIndirectY, 0xD3#8, (.byte o)⟩
  | .cmpDpInd o => ⟨.cmp, .directIndirect, 0xD2#8, (.byte o)⟩
  | .cmpDpLongInd o => ⟨.cmp, .directIndirectLong, 0xC7#8, (.byte o)⟩
  | .eorImm v => ⟨.eor, .immediate, 0x49#8, (.immM v)⟩
  | .eorAbs a => ⟨.eor, .absolute, 0x4D#8, (.word a)⟩
  | .eorLong a => ⟨.eor, .absoluteLong, 0x4F#8, (.long a)⟩
  | .eorDp o => ⟨.eor, .direct, 0x45#8, (.byte o)⟩
  | .eorDpX o => ⟨.eor, .directX, 0x55#8, (.byte o)⟩
  | .eorAbsX a => ⟨.eor, .absoluteX, 0x5D#8, (.word a)⟩
  | .eorAbsY a => ⟨.eor, .absoluteY, 0x59#8, (.word a)⟩
  | .eorLongX a => ⟨.eor, .absoluteLongX, 0x5F#8, (.long a)⟩
  | .eorSr o => ⟨.eor, .stackRelative, 0x43#8, (.byte o)⟩
  | .eorDpXInd o => ⟨.eor, .directXIndirect, 0x41#8, (.byte o)⟩
  | .eorDpIndY o => ⟨.eor, .directIndirectY, 0x51#8, (.byte o)⟩
  | .eorDpLongIndY o => ⟨.eor, .directIndirectLongY, 0x57#8, (.byte o)⟩
  | .eorSrIndY o => ⟨.eor, .stackRelativeIndirectY, 0x53#8, (.byte o)⟩
  | .eorDpInd o => ⟨.eor, .directIndirect, 0x52#8, (.byte o)⟩
  | .eorDpLongInd o => ⟨.eor, .directIndirectLong, 0x47#8, (.byte o)⟩
  | .ldaImm v => ⟨.lda, .immediate, 0xA9#8, (.immM v)⟩
  | .ldaAbs a => ⟨.lda, .absolute, 0xAD#8, (.word a)⟩
  | .ldaLong a => ⟨.lda, .absoluteLong, 0xAF#8, (.long a)⟩
  | .ldaDp o => ⟨.lda, .direct, 0xA5#8, (.byte o)⟩
  | .ldaDpX o => ⟨.lda, .directX, 0xB5#8, (.byte o)⟩
  | .ldaAbsX a => ⟨.lda, .absoluteX, 0xBD#8, (.word a)⟩
  | .ldaAbsY a => ⟨.lda, .absoluteY, 0xB9#8, (.word a)⟩
  | .ldaLongX a => ⟨.lda, .absoluteLongX, 0xBF#8, (.long a)⟩
  | .ldaSr o => ⟨.lda, .stackRelative, 0xA3#8, (.byte o)⟩
  | .ldaDpXInd o => ⟨.lda, .directXIndirect, 0xA1#8, (.byte o)⟩
  | .ldaDpIndY o => ⟨.lda, .directIndirectY, 0xB1#8, (.byte o)⟩
  | .ldaDpLongIndY o => ⟨.lda, .directIndirectLongY, 0xB7#8, (.byte o)⟩
  | .ldaSrIndY o => ⟨.lda, .stackRelativeIndirectY, 0xB3#8, (.byte o)⟩
  | .ldaDpInd o => ⟨.lda, .directIndirect, 0xB2#8, (.byte o)⟩
  | .ldaDpLongInd o => ⟨.lda, .directIndirectLong, 0xA7#8, (.byte o)⟩
  | .oraImm v => ⟨.ora, .immediate, 0x09#8, (.immM v)⟩
  | .oraAbs a => ⟨.ora, .absolute, 0x0D#8, (.word a)⟩
  | .oraLong a => ⟨.ora, .absoluteLong, 0x0F#8, (.long a)⟩
  | .oraDp o => ⟨.ora, .direct, 0x05#8, (.byte o)⟩
  | .oraDpX o => ⟨.ora, .directX, 0x15#8, (.byte o)⟩
  | .oraAbsX a => ⟨.ora, .absoluteX, 0x1D#8, (.word a)⟩
  | .oraAbsY a => ⟨.ora, .absoluteY, 0x19#8, (.word a)⟩
  | .oraLongX a => ⟨.ora, .absoluteLongX, 0x1F#8, (.long a)⟩
  | .oraSr o => ⟨.ora, .stackRelative, 0x03#8, (.byte o)⟩
  | .oraDpXInd o => ⟨.ora, .directXIndirect, 0x01#8, (.byte o)⟩
  | .oraDpIndY o => ⟨.ora, .directIndirectY, 0x11#8, (.byte o)⟩
  | .oraDpLongIndY o => ⟨.ora, .directIndirectLongY, 0x17#8, (.byte o)⟩
  | .oraSrIndY o => ⟨.ora, .stackRelativeIndirectY, 0x13#8, (.byte o)⟩
  | .oraDpInd o => ⟨.ora, .directIndirect, 0x12#8, (.byte o)⟩
  | .oraDpLongInd o => ⟨.ora, .directIndirectLong, 0x07#8, (.byte o)⟩
  | .sbcImm v => ⟨.sbc, .immediate, 0xE9#8, (.immM v)⟩
  | .sbcAbs a => ⟨.sbc, .absolute, 0xED#8, (.word a)⟩
  | .sbcLong a => ⟨.sbc, .absoluteLong, 0xEF#8, (.long a)⟩
  | .sbcDp o => ⟨.sbc, .direct, 0xE5#8, (.byte o)⟩
  | .sbcDpX o => ⟨.sbc, .directX, 0xF5#8, (.byte o)⟩
  | .sbcAbsX a => ⟨.sbc, .absoluteX, 0xFD#8, (.word a)⟩
  | .sbcAbsY a => ⟨.sbc, .absoluteY, 0xF9#8, (.word a)⟩
  | .sbcLongX a => ⟨.sbc, .absoluteLongX, 0xFF#8, (.long a)⟩
  | .sbcSr o => ⟨.sbc, .stackRelative, 0xE3#8, (.byte o)⟩
  | .sbcDpXInd o => ⟨.sbc, .directXIndirect, 0xE1#8, (.byte o)⟩
  | .sbcDpIndY o => ⟨.sbc, .directIndirectY, 0xF1#8, (.byte o)⟩
  | .sbcDpLongIndY o => ⟨.sbc, .directIndirectLongY, 0xF7#8, (.byte o)⟩
  | .sbcSrIndY o => ⟨.sbc, .stackRelativeIndirectY, 0xF3#8, (.byte o)⟩
  | .sbcDpInd o => ⟨.sbc, .directIndirect, 0xF2#8, (.byte o)⟩
  | .sbcDpLongInd o => ⟨.sbc, .directIndirectLong, 0xE7#8, (.byte o)⟩
  | .staAbs a => ⟨.sta, .absolute, 0x8D#8, (.word a)⟩
  | .staLong a => ⟨.sta, .absoluteLong, 0x8F#8, (.long a)⟩
  | .staDp o => ⟨.sta, .direct, 0x85#8, (.byte o)⟩
  | .staDpX o => ⟨.sta, .directX, 0x95#8, (.byte o)⟩
  | .staAbsX a => ⟨.sta, .absoluteX, 0x9D#8, (.word a)⟩
  | .staAbsY a => ⟨.sta, .absoluteY, 0x99#8, (.word a)⟩
  | .staLongX a => ⟨.sta, .absoluteLongX, 0x9F#8, (.long a)⟩
  | .staSr o => ⟨.sta, .stackRelative, 0x83#8, (.byte o)⟩
  | .staDpXInd o => ⟨.sta, .directXIndirect, 0x81#8, (.byte o)⟩
  | .staDpIndY o => ⟨.sta, .directIndirectY, 0x91#8, (.byte o)⟩
  | .staDpLongIndY o => ⟨.sta, .directIndirectLongY, 0x97#8, (.byte o)⟩
  | .staSrIndY o => ⟨.sta, .stackRelativeIndirectY, 0x93#8, (.byte o)⟩
  | .staDpInd o => ⟨.sta, .directIndirect, 0x92#8, (.byte o)⟩
  | .staDpLongInd o => ⟨.sta, .directIndirectLong, 0x87#8, (.byte o)⟩
  -- Group 2, bit test, shifts, counts, status bits
  | .bitImm v => ⟨.bit, .immediate, 0x89#8, (.immM v)⟩
  | .bitAbs a => ⟨.bit, .absolute, 0x2C#8, (.word a)⟩
  | .bitDp o => ⟨.bit, .direct, 0x24#8, (.byte o)⟩
  | .bitDpX o => ⟨.bit, .directX, 0x34#8, (.byte o)⟩
  | .bitAbsX a => ⟨.bit, .absoluteX, 0x3C#8, (.word a)⟩
  | .rorAbs a => ⟨.ror, .absolute, 0x6E#8, (.word a)⟩
  | .rorDp o => ⟨.ror, .direct, 0x66#8, (.byte o)⟩
  | .rorAcc => ⟨.ror, .accumulator, 0x6A#8, .none⟩
  | .rorDpX o => ⟨.ror, .directX, 0x76#8, (.byte o)⟩
  | .rorAbsX a => ⟨.ror, .absoluteX, 0x7E#8, (.word a)⟩
  | .aslAbs a => ⟨.asl, .absolute, 0x0E#8, (.word a)⟩
  | .aslDp o => ⟨.asl, .direct, 0x06#8, (.byte o)⟩
  | .aslAcc => ⟨.asl, .accumulator, 0x0A#8, .none⟩
  | .aslDpX o => ⟨.asl, .directX, 0x16#8, (.byte o)⟩
  | .aslAbsX a => ⟨.asl, .absoluteX, 0x1E#8, (.word a)⟩
  | .lsrAbs a => ⟨.lsr, .absolute, 0x4E#8, (.word a)⟩
  | .lsrDp o => ⟨.lsr, .direct, 0x46#8, (.byte o)⟩
  | .lsrAcc => ⟨.lsr, .accumulator, 0x4A#8, .none⟩
  | .lsrDpX o => ⟨.lsr, .directX, 0x56#8, (.byte o)⟩
  | .lsrAbsX a => ⟨.lsr, .absoluteX, 0x5E#8, (.word a)⟩
  | .rolAbs a => ⟨.rol, .absolute, 0x2E#8, (.word a)⟩
  | .rolDp o => ⟨.rol, .direct, 0x26#8, (.byte o)⟩
  | .rolAcc => ⟨.rol, .accumulator, 0x2A#8, .none⟩
  | .rolDpX o => ⟨.rol, .directX, 0x36#8, (.byte o)⟩
  | .rolAbsX a => ⟨.rol, .absoluteX, 0x3E#8, (.word a)⟩
  | .incAbs a => ⟨.inc, .absolute, 0xEE#8, (.word a)⟩
  | .incDp o => ⟨.inc, .direct, 0xE6#8, (.byte o)⟩
  | .incAcc => ⟨.inc, .accumulator, 0x1A#8, .none⟩
  | .incDpX o => ⟨.inc, .directX, 0xF6#8, (.byte o)⟩
  | .incAbsX a => ⟨.inc, .absoluteX, 0xFE#8, (.word a)⟩
  | .decAbs a => ⟨.dec, .absolute, 0xCE#8, (.word a)⟩
  | .decDp o => ⟨.dec, .direct, 0xC6#8, (.byte o)⟩
  | .decAcc => ⟨.dec, .accumulator, 0x3A#8, .none⟩
  | .decDpX o => ⟨.dec, .directX, 0xD6#8, (.byte o)⟩
  | .decAbsX a => ⟨.dec, .absoluteX, 0xDE#8, (.word a)⟩
  | .rep imm => ⟨.rep, .immediate, 0xC2#8, (.byte imm)⟩
  | .sep imm => ⟨.sep, .immediate, 0xE2#8, (.byte imm)⟩
  | .trbAbs a => ⟨.trb, .absolute, 0x1C#8, (.word a)⟩
  | .trbDp o => ⟨.trb, .direct, 0x14#8, (.byte o)⟩
  | .tsbAbs a => ⟨.tsb, .absolute, 0x0C#8, (.word a)⟩
  | .tsbDp o => ⟨.tsb, .direct, 0x04#8, (.byte o)⟩
  -- Group 3, index registers and memory
  | .ldxImm v => ⟨.ldx, .immediate, 0xA2#8, (.immX v)⟩
  | .ldxAbs a => ⟨.ldx, .absolute, 0xAE#8, (.word a)⟩
  | .ldxDp o => ⟨.ldx, .direct, 0xA6#8, (.byte o)⟩
  | .ldxDpY o => ⟨.ldx, .directY, 0xB6#8, (.byte o)⟩
  | .ldxAbsY a => ⟨.ldx, .absoluteY, 0xBE#8, (.word a)⟩
  | .ldyImm v => ⟨.ldy, .immediate, 0xA0#8, (.immX v)⟩
  | .ldyAbs a => ⟨.ldy, .absolute, 0xAC#8, (.word a)⟩
  | .ldyDp o => ⟨.ldy, .direct, 0xA4#8, (.byte o)⟩
  | .ldyDpX o => ⟨.ldy, .directX, 0xB4#8, (.byte o)⟩
  | .ldyAbsX a => ⟨.ldy, .absoluteX, 0xBC#8, (.word a)⟩
  | .cpxImm v => ⟨.cpx, .immediate, 0xE0#8, (.immX v)⟩
  | .cpxAbs a => ⟨.cpx, .absolute, 0xEC#8, (.word a)⟩
  | .cpxDp o => ⟨.cpx, .direct, 0xE4#8, (.byte o)⟩
  | .cpyImm v => ⟨.cpy, .immediate, 0xC0#8, (.immX v)⟩
  | .cpyAbs a => ⟨.cpy, .absolute, 0xCC#8, (.word a)⟩
  | .cpyDp o => ⟨.cpy, .direct, 0xC4#8, (.byte o)⟩
  | .stxAbs a => ⟨.stx, .absolute, 0x8E#8, (.word a)⟩
  | .stxDp o => ⟨.stx, .direct, 0x86#8, (.byte o)⟩
  | .stxDpY o => ⟨.stx, .directY, 0x96#8, (.byte o)⟩
  | .styAbs a => ⟨.sty, .absolute, 0x8C#8, (.word a)⟩
  | .styDp o => ⟨.sty, .direct, 0x84#8, (.byte o)⟩
  | .styDpX o => ⟨.sty, .directX, 0x94#8, (.byte o)⟩
  | .stzAbs a => ⟨.stz, .absolute, 0x9C#8, (.word a)⟩
  | .stzDp o => ⟨.stz, .direct, 0x64#8, (.byte o)⟩
  | .stzDpX o => ⟨.stz, .directX, 0x74#8, (.byte o)⟩
  | .stzAbsX a => ⟨.stz, .absoluteX, 0x9E#8, (.word a)⟩
  -- Group 4, implied
  | .inx => ⟨.inx, .implied, 0xE8#8, .none⟩
  | .iny => ⟨.iny, .implied, 0xC8#8, .none⟩
  | .dex => ⟨.dex, .implied, 0xCA#8, .none⟩
  | .dey => ⟨.dey, .implied, 0x88#8, .none⟩
  | .tax => ⟨.tax, .implied, 0xAA#8, .none⟩
  | .tay => ⟨.tay, .implied, 0xA8#8, .none⟩
  | .tsx => ⟨.tsx, .implied, 0xBA#8, .none⟩
  | .txa => ⟨.txa, .implied, 0x8A#8, .none⟩
  | .txs => ⟨.txs, .implied, 0x9A#8, .none⟩
  | .txy => ⟨.txy, .implied, 0x9B#8, .none⟩
  | .tya => ⟨.tya, .implied, 0x98#8, .none⟩
  | .tyx => ⟨.tyx, .implied, 0xBB#8, .none⟩
  | .clc => ⟨.clc, .implied, 0x18#8, .none⟩
  | .cld => ⟨.cld, .implied, 0xD8#8, .none⟩
  | .cli => ⟨.cli, .implied, 0x58#8, .none⟩
  | .clv => ⟨.clv, .implied, 0xB8#8, .none⟩
  | .sec => ⟨.sec, .implied, 0x38#8, .none⟩
  | .sed => ⟨.sed, .implied, 0xF8#8, .none⟩
  | .sei => ⟨.sei, .implied, 0x78#8, .none⟩
  | .tcd => ⟨.tcd, .implied, 0x5B#8, .none⟩
  | .tcs => ⟨.tcs, .implied, 0x1B#8, .none⟩
  | .tdc => ⟨.tdc, .implied, 0x7B#8, .none⟩
  | .tsc => ⟨.tsc, .implied, 0x3B#8, .none⟩
  | .xba => ⟨.xba, .implied, 0xEB#8, .none⟩
  | .xce => ⟨.xce, .implied, 0xFB#8, .none⟩
  | .stp => ⟨.stp, .implied, 0xDB#8, .none⟩
  | .wai => ⟨.wai, .implied, 0xCB#8, .none⟩
  | .wdm sig => ⟨.wdm, .implied, 0x42#8, (.byte sig)⟩
  | .nop => ⟨.nop, .implied, 0xEA#8, .none⟩
  -- Group 5, stack
  | .pha => ⟨.pha, .stack, 0x48#8, .none⟩
  | .phb => ⟨.phb, .stack, 0x8B#8, .none⟩
  | .phd => ⟨.phd, .stack, 0x0B#8, .none⟩
  | .phk => ⟨.phk, .stack, 0x4B#8, .none⟩
  | .php => ⟨.php, .stack, 0x08#8, .none⟩
  | .phx => ⟨.phx, .stack, 0xDA#8, .none⟩
  | .phy => ⟨.phy, .stack, 0x5A#8, .none⟩
  | .pla => ⟨.pla, .stack, 0x68#8, .none⟩
  | .plb => ⟨.plb, .stack, 0xAB#8, .none⟩
  | .pld => ⟨.pld, .stack, 0x2B#8, .none⟩
  | .plp => ⟨.plp, .stack, 0x28#8, .none⟩
  | .plx => ⟨.plx, .stack, 0xFA#8, .none⟩
  | .ply => ⟨.ply, .stack, 0x7A#8, .none⟩
  | .pea a => ⟨.pea, .stack, 0xF4#8, (.word a)⟩
  | .pei o => ⟨.pei, .stack, 0xD4#8, (.byte o)⟩
  | .per off => ⟨.per, .stack, 0x62#8, (.word off)⟩
  | .brk sig => ⟨.brk, .stack, 0x00#8, (.byte sig)⟩
  | .cop sig => ⟨.cop, .stack, 0x02#8, (.byte sig)⟩
  | .rti => ⟨.rti, .stack, 0x40#8, .none⟩
  | .rtl => ⟨.rtl, .stack, 0x6B#8, .none⟩
  | .rts => ⟨.rts, .stack, 0x60#8, .none⟩
  -- Group 6, relative branches
  | .bcc off => ⟨.bcc, .relative, 0x90#8, (.byte off)⟩
  | .bcs off => ⟨.bcs, .relative, 0xB0#8, (.byte off)⟩
  | .beq off => ⟨.beq, .relative, 0xF0#8, (.byte off)⟩
  | .bmi off => ⟨.bmi, .relative, 0x30#8, (.byte off)⟩
  | .bne off => ⟨.bne, .relative, 0xD0#8, (.byte off)⟩
  | .bpl off => ⟨.bpl, .relative, 0x10#8, (.byte off)⟩
  | .bra off => ⟨.bra, .relative, 0x80#8, (.byte off)⟩
  | .brl off => ⟨.brl, .relativeLong, 0x82#8, (.word off)⟩
  | .bvc off => ⟨.bvc, .relative, 0x50#8, (.byte off)⟩
  | .bvs off => ⟨.bvs, .relative, 0x70#8, (.byte off)⟩
  -- Group 7, jumps and calls
  | .jml a => ⟨.jml, .absoluteIndirect, 0xDC#8, (.word a)⟩
  | .jmpAbs a => ⟨.jmp, .absolute, 0x4C#8, (.word a)⟩
  | .jmpLong a => ⟨.jmp, .absoluteLong, 0x5C#8, (.long a)⟩
  | .jmpAbsInd a => ⟨.jmp, .absoluteIndirect, 0x6C#8, (.word a)⟩
  | .jmpAbsXInd a => ⟨.jmp, .absoluteIndexedIndirect, 0x7C#8, (.word a)⟩
  | .jsl a => ⟨.jsl, .absoluteLong, 0x22#8, (.long a)⟩
  | .jsrAbs a => ⟨.jsr, .absolute, 0x20#8, (.word a)⟩
  | .jsrAbsXInd a => ⟨.jsr, .absoluteIndexedIndirect, 0xFC#8, (.word a)⟩
  -- Group 8, block moves
  | .mvn dst src => ⟨.mvn, .xyc, 0x54#8, (.banks dst src)⟩
  | .mvp dst src => ⟨.mvp, .xyc, 0x44#8, (.banks dst src)⟩

/-- The mnemonic of an instruction. -/
def Instr.mnemonic (i : Instr) : Mnemonic := i.coding.mnemonic

/-- The addressing mode of an instruction (R120). -/
def Instr.mode (i : Instr) : Mode := i.coding.mode

/-- The operand bytes in memory order (R60, R94). -/
def OperandBytes.bytes (m x : Bool) : OperandBytes → List Byte
  | .none => []
  | .byte b => [b]
  | .word a => [lo a, hi a]
  | .banks dst src => [dst, src]
  | .long a => [lo (offsetOf a), hi (offsetOf a), bankOf a]
  | .immM v => if m then [lo v] else [lo v, hi v]
  | .immX v => if x then [lo v] else [lo v, hi v]

/-- The bytes of an instruction under the current M and X flags. -/
def encode (m x : Bool) (i : Instr) : List Byte := i.coding.opcode :: i.coding.operands.bytes m x

/-- The operand of a mode that gives data (R121 to R139), and none for every other mode. -/
def Coding.modeOperand (c : Coding) : Option Operand :=
  match c.mode, c.operands with
  | .immediate, .immM v => some (.imm v)
  | .immediate, .immX v => some (.imm v)
  | .absolute, .word a => some (.mem (.abs a))
  | .absoluteLong, .long a => some (.mem (.long a))
  | .direct, .byte o => some (.mem (.dp o))
  | .directX, .byte o => some (.mem (.dpX o))
  | .directY, .byte o => some (.mem (.dpY o))
  | .absoluteX, .word a => some (.mem (.absX a))
  | .absoluteY, .word a => some (.mem (.absY a))
  | .absoluteLongX, .long a => some (.mem (.longX a))
  | .stackRelative, .byte o => some (.mem (.sr o))
  | .directXIndirect, .byte o => some (.mem (.dpXInd o))
  | .directIndirectY, .byte o => some (.mem (.dpIndY o))
  | .directIndirectLongY, .byte o => some (.mem (.dpLongIndY o))
  | .stackRelativeIndirectY, .byte o => some (.mem (.srIndY o))
  | .directIndirect, .byte o => some (.mem (.dpInd o))
  | .directIndirectLong, .byte o => some (.mem (.dpLongInd o))
  | _, _ => none

/-- The data operand of an instruction, and none where it has none: for JMP, JSR and JSL the address of modes `a` and
`al` is the target, no data address (R122, R123, R320). -/
def Instr.dataOperand (i : Instr) : Option Operand :=
  match i.coding.mnemonic with
  | .jmp | .jsl | .jsr => none
  | _ => i.coding.modeOperand

/-! ### One word of the opcode table -/

/-- The four bytes of a number, bit 0 the lowest bit of the first byte, the bits from `nbits` on taken as 0. -/
def tableBytes (nbits w : Nat) : List Byte :=
  let v := w % 2 ^ nbits
  [BitVec.ofNat 8 v, BitVec.ofNat 8 (v / 2 ^ 8), BitVec.ofNat 8 (v / 2 ^ 16), BitVec.ofNat 8 (v / 2 ^ 24)]

/-- The instruction the decoder reads from a word of the opcode table, under the M and X flags reset leaves (both 1,
R37; log 19). -/
def decodeTableWord (nbits w : Nat) : Option Instr :=
  match decode true true (tableBytes nbits w) with
  | .ok r => some r.1
  | .error _ => none

end Sys2Proof
end

