-- ==== Sys2Proof/Machine/Fetch.lean ====
section
/-! DEFINITION. Fetching an instruction (R92, R93, R77) and placing one where it is fetched. -/

namespace Sys2Proof.Machine

/-- The address of the instruction byte `k`: bank PBR, PC + k modulo 2^16 (R27, R92). -/
def Regs.fetchAddr (k : Nat) (r : Regs) : Addr := bankAddr r.pbr (r.pc + BitVec.ofNat 16 k)

/-- Read the `n` instruction bytes from byte `k` on, in order (R92). -/
def fetchFrom : Nat → Nat → State → List Byte × State
  | _, 0, s => ([], s)
  | k, n + 1, s =>
    let b := readByte (s.regs.fetchAddr k) s
    let rest := fetchFrom (k + 1) n b.2
    (b.1 :: rest.1, rest.2)

/-- Fetch the instruction at PBR:PC: the opcode, then as many operand bytes as it has under the current M and X flags
(R93, R98). No byte sequence is illegal (R90), so there always is an instruction. -/
def fetchInstr (s : State) : Instr × State :=
  let op := readByte (s.regs.fetchAddr 0) s
  let row := opRow op.1
  let m := s.regs.p.m
  let x := s.regs.p.x
  let bs := fetchFrom 1 (row.operandCount m x) op.2
  (row.build m x (bs.1.getD 0 0x00#8) (bs.1.getD 1 0x00#8) (bs.1.getD 2 0x00#8), bs.2)

/-- Put one byte where instruction byte `k` is fetched; where the platform's map has neither RAM nor ROM at that
address, a one-byte RAM region is put before it. -/
def State.placeByte (k : Nat) (b : Byte) (s : State) : State :=
  let a := s.regs.fetchAddr k
  let s' := s.poke a b
  match s.kindAt a with
  | .ram => s'
  | .rom => s'
  | .device => { s' with params := { s.params with memMap := ⟨a.toNat, a.toNat, .ram⟩ :: s.params.memMap } }
  | .unpopulated => { s' with params := { s.params with memMap := ⟨a.toNat, a.toNat, .ram⟩ :: s.params.memMap } }

/-- Put a list of bytes where the instruction bytes from `k` on are fetched. -/
def State.placeBytes : Nat → List Byte → State → State
  | _, [], s => s
  | k, b :: rest, s => (s.placeByte k b).placeBytes (k + 1) rest

/-- What lets the next step fetch: the processor runs, and no reset, NMI or IRQ comes before the fetch (R362). -/
def State.readyToFetch (s : State) : State :=
  { s with run := .running, irqLine := false, nmiPending := false, resetLine := false, inputs := [] }

end Sys2Proof.Machine
end

