-- ==== Sys2Proof/Machine/Step.lean ====
section
/-! DEFINITION. One step of the machine (R362). -/

namespace Sys2Proof.Machine

/-- One step: the platform's input, the boundary, and where it leads to one, the fetched instruction (R362). -/
def step (s : State) : Host.Outcome State Fault Refusal :=
  match boundary (takeInput s) with
  | .done t => .next t
  | .execute t => exec (fetchInstr t).1 (fetchInstr t).2

/-- The state with a word of the opcode table placed where the next step fetches, and nothing in the way of the fetch
(log 18). -/
def State.withFetchWord (s : State) (nbits w : Nat) : State :=
  (s.placeBytes 0 (tableBytes nbits w)).readyToFetch

end Sys2Proof.Machine
end

