-- ==== Sys2Proof/Safety.lean ====
section
/-! DEFINITION. What statements about the machine are stated in: the invariant of every reachable state, and when the
next step runs the instruction at PBR:PC. -/

namespace Sys2Proof.Machine

/-- In emulation mode M and X are 1 (R30). -/
def Regs.modeFlagsHeld (r : Regs) : Bool := !r.e || (r.p.m && r.p.x)

/-- While the X flag is 1, XH and YH are 00H (R23). -/
def Regs.indexHighClear (r : Regs) : Bool :=
  !r.p.x || (decide (hi r.x = 0x00#8) && decide (hi r.y = 0x00#8))

/-- In emulation mode SH is 01H (R24). -/
def Regs.stackPageHeld (r : Regs) : Bool := !r.e || decide (hi r.sp = 0x01#8)

/-- The register part of the invariant (R23, R24, R30). -/
def Regs.inv (r : Regs) : Bool := r.modeFlagsHeld && r.indexHighClear && r.stackPageHeld

/-- The invariant every step keeps: the registers' (R23, R24, R30), and memory in canonical form. -/
def State.inv (s : State) : Bool := s.regs.inv && s.mem.wf

/-- The next step fetches and runs an instruction: no input comes, no reset, the processor runs, no NMI, no IRQ that
I lets through (R362). -/
def State.undisturbed (s : State) : Bool :=
  s.inputs.isEmpty && !s.resetLine && decide (s.run = .running) && !s.nmiPending && !(s.irqLine && !s.regs.p.i)

/-- The `n` instruction bytes from PBR:PC on lie in RAM or ROM. -/
def State.codeInMemory (n : Nat) (s : State) : Bool :=
  (List.range n).all fun k =>
    decide (s.kindAt (s.regs.fetchAddr k) = .ram) || decide (s.kindAt (s.regs.fetchAddr k) = .rom)

/-- The bytes memory holds at the `n` instruction addresses from PBR:PC on. -/
def State.codeBytes (n : Nat) (s : State) : List Byte := (List.range n).map fun k => s.byteAt (s.regs.fetchAddr k)

/-- A run of any length goes on, in states that keep the invariant. -/
def State.safe (s : State) : Prop := ∀ k, ∃ t, Sys2Proof.core.run k s = .next t ∧ State.inv t = true

end Sys2Proof.Machine
end

