-- ==== Sys2Proof/Certificates/Slice0/Obligations.lean ====
section
/-! DEFINITION. The statements for the provers, and the words they are stated in. The words restate the spec's
definitions in numbers, beside the model's own: widths, flags, the byte image of P, stack slots, addresses. Where a
statement rests on a decision the spec marks as its own ("D<n>" of 92_eei_decisions.md) or on a log entry of the
model, its docstring says so. -/

namespace Sys2Proof.Spec

open Sys2Proof.Machine

/-! ### Widths, N and Z -/

/-- 8 if the flag is 1, else 16 (R28, R29). -/
def bits (flag : Bool) : Nat := if flag then 8 else 16

/-- The low `bits flag` bits of a word. -/
def low (flag : Bool) (v : Word) : Word := if flag then word 0x00#8 (lo v) else v

/-- `old` with its low `bits flag` bits taken from `v`: B is kept at 8 bits (R22). -/
def mix (flag : Bool) (old v : Word) : Word := if flag then word (hi old) (lo v) else v

/-- `Acc` (R22). -/
def acc (r : Regs) : Word := low r.p.m r.c

/-- `SetNZ` (R10; R31, decision D10). -/
def nz (flag : Bool) (v : Word) (p : Status) : Status :=
  { p with n := v.getLsbD (bits flag - 1), z := decide (v.toNat % 2 ^ bits flag = 0) }

/-- A number as a word, reduced to the width. -/
def wrap (flag : Bool) (n : Nat) : Word := BitVec.ofNat 16 (n % 2 ^ bits flag)

/-- A value of the width read as two's complement. -/
def signed (flag : Bool) (v : Word) : Int := if flag then (lo v).toInt else v.toInt

/-- V: the signed result lies outside the width (R31, decision D10). -/
def outOfRange (flag : Bool) (n : Int) : Bool :=
  decide (n < -(2 ^ (bits flag - 1))) || decide (2 ^ (bits flag - 1) ≤ n)

/-! ### What an instruction leaves -/

/-- `nextPC`: PC plus the length of the instruction under the current M and X, inside the bank (R27, R93). -/
def nextPC (i : Instr) (r : Regs) : Word := r.pc + BitVec.ofNat 16 (encode r.p.m r.p.x i).length

/-- The instruction completes with registers `r`; memory, run state, lines, parameters and inputs are as before. Its
reads may draw free values and be seen by devices (log 2, log 5). -/
def completes (i : Instr) (s : State) (r : Regs) : Prop :=
  ∃ n l, exec i s = .next { s with regs := r, draws := n, deviceLog := l }

/-- From `s` to `t` only registers, memory, the count of draws and the device log may differ. -/
def sameOutside (s t : State) : Prop :=
  t.run = s.run ∧ t.irqLine = s.irqLine ∧ t.nmiPending = s.nmiPending ∧ t.resetLine = s.resetLine ∧
    t.params = s.params ∧ t.inputs = s.inputs

/-- The instruction completes with registers `r`, and afterwards every byte of memory reads as `f` says. -/
def completesStoring (i : Instr) (s : State) (r : Regs) (f : Addr → Byte) : Prop :=
  ∃ t, exec i s = .next t ∧ t.regs = r ∧ sameOutside s t ∧ ∀ a, t.byteAt a = f a

/-- Every byte after a store of one byte (flag 1) or two (flag 0) at `ea`, the low byte first: only RAM takes it
(R60, R71). -/
def stored (ea : EA) (flag : Bool) (v : Word) (s : State) (a : Addr) : Byte :=
  if s.kindAt a ≠ .ram then s.byteAt a
  else if a = ea.byteAddr 0 then lo v
  else if !flag && decide (a = ea.byteAddr 1) then hi v
  else s.byteAt a

/-- RAM or ROM. -/
def isMemory (s : State) (a : Addr) : Bool := decide (s.kindAt a = .ram) || decide (s.kindAt a = .rom)

/-- The operand of a mode is the byte at `f 0`, or the word of the bytes at `f 0` and `f 1`, the low byte first, where
those lie in memory; reading it changes nothing (R60, R61, R67). -/
def loads (md : MemMode) (s : State) (f : Nat → Addr) : Prop :=
  ∀ flag : Bool, isMemory s (f 0) = true → (flag = false → isMemory s (f 1) = true) →
    let v := if flag then word 0x00#8 (s.byteAt (f 0)) else word (s.byteAt (f 1)) (s.byteAt (f 0))
    loadMem md (Width.ofFlag flag) s = (v, s) ∧ loadOperand (.mem md) (Width.ofFlag flag) s = (v, s)

/-! ### Instruction bytes -/

/-- The address of instruction byte `k`: bank PBR, PC + k modulo 2^16 (R27, R92). -/
def codeAddr (r : Regs) (k : Nat) : Addr := BitVec.ofNat 24 (r.pbr.toNat * 65536 + (r.pc.toNat + k) % 65536)

/-- The operand bytes of a mode as one number. -/
def modeNumber : MemMode → Nat
  | .abs a | .absX a | .absY a => a.toNat
  | .long a | .longX a => a.toNat
  | .dp o | .dpX o | .dpY o | .sr o | .dpXInd o | .dpIndY o | .dpLongIndY o | .srIndY o | .dpInd o | .dpLongInd o =>
    o.toNat

/-- The operand of an instruction as one number: of every instruction with an operand of two or three bytes but MVN and
MVP, whose two bytes are two banks. -/
def operandNumber (i : Instr) : Option Nat :=
  match i.dataOperand with
  | some (.imm v) => some v.toNat
  | some (.mem md) => some (modeNumber md)
  | none =>
    match i with
    | .jmpAbs a | .jmpAbsInd a | .jmpAbsXInd a | .jml a | .jsrAbs a | .jsrAbsXInd a => some a.toNat
    | .pea a | .per a | .brl a => some a.toNat
    | .jmpLong a | .jsl a => some a.toNat
    | _ => none

/-! ### The stack (R24, R33) -/

/-- S moved by `d`: SL alone, with SH 01H, in emulation mode. -/
def moveS (r : Regs) (d : Int) : Word :=
  if r.e then word 0x01#8 (lo r.sp + BitVec.ofInt 8 d) else r.sp + BitVec.ofInt 16 d

/-- The address `d` away from the top of the stack, in bank 00. -/
def slot (r : Regs) (d : Int) : Addr := bankAddr 0x00#8 (moveS r d)

/-- Every byte after pushing the bytes `bs` in order, `k` bytes being pushed already: only RAM takes them (R71). -/
def pushed : Nat → List Byte → State → Addr → Byte
  | _, [], s, a => s.byteAt a
  | k, b :: bs, s, a =>
    if a = slot s.regs (-(k : Int)) ∧ s.kindAt a = .ram then b else pushed (k + 1) bs s a

/-- The byte `k` places above the top of the stack. -/
def stackByte (s : State) (k : Nat) : Byte := s.byteAt (slot s.regs k)

/-- The `n` bytes above the top of the stack lie in RAM or ROM. -/
def stackInMemory (n : Nat) (s : State) : Prop := ∀ k : Nat, 1 ≤ k → k ≤ n → isMemory s (slot s.regs k) = true

/-- The `n` places a push would fill lie in RAM. -/
def stackInRam (n : Nat) (s : State) : Prop := ∀ k : Nat, k < n → s.kindAt (slot s.regs (-(k : Int))) = .ram

/-- The bytes of a 16-bit value in the order of its push, the high byte first. -/
def pushWord (v : Word) : List Byte := [hi v, lo v]

/-- The bytes of a push at a width. -/
def pushBytes (flag : Bool) (v : Word) : List Byte := if flag then [lo v] else pushWord v

/-! ### The byte image of P (R28, R34; decision D12) -/

/-- N V M X D I Z C in native mode, N V 1 b D I Z C in emulation mode. -/
def image (e b : Bool) (p : Status) : Byte :=
  BitVec.ofNat 8 (128 * p.n.toNat + 64 * p.v.toNat + 32 * (if e then 1 else p.m.toNat) +
    16 * (if e then b.toNat else p.x.toNat) + 8 * p.d.toNat + 4 * p.i.toNat + 2 * p.z.toNat + p.c.toNat)

/-- P loaded from an image: M and X only in native mode. -/
def loadP (e : Bool) (v : Byte) (p : Status) : Status :=
  { n := v.getLsbD 7, v := v.getLsbD 6
    m := if e then p.m else v.getLsbD 5
    x := if e then p.x else v.getLsbD 4
    d := v.getLsbD 3, i := v.getLsbD 2, z := v.getLsbD 1, c := v.getLsbD 0 }

/-- P with each flag changed by the bit of an immediate at its place: M and X only in native mode (R188, R189). -/
def setBits (e : Bool) (g : Bool → Bool → Bool) (imm : Byte) (p : Status) : Status :=
  { n := g p.n (imm.getLsbD 7), v := g p.v (imm.getLsbD 6)
    m := if e then p.m else g p.m (imm.getLsbD 5)
    x := if e then p.x else g p.x (imm.getLsbD 4)
    d := g p.d (imm.getLsbD 3), i := g p.i (imm.getLsbD 2), z := g p.z (imm.getLsbD 1), c := g p.c (imm.getLsbD 0) }

/-- The registers with P replaced: XH and YH are 00H where the X flag is 1 (R23, R35). -/
def withP (r : Regs) (p : Status) : Regs := { r with p := p, x := low p.x r.x, y := low p.x r.y }

/-! ### Interrupt entry (R352, R355; decisions D2, D3) -/

/-- What the entry pushes, in order. -/
def frame (r : Regs) (ret : Word) (b : Bool) : List Byte :=
  (if r.e then [] else [r.pbr]) ++ pushWord ret ++ [image r.e b r.p]

/-- From `s` to `t` a handler is entered through the vector at `00:vec`, with return address `ret` and break bit `b`. -/
def enters (vec ret : Word) (b : Bool) (s t : State) : Prop :=
  t.regs = { s.regs with
    sp := moveS s.regs (if s.regs.e then -3 else -4), pbr := 0x00#8
    p := { s.regs.p with i := true, d := false }, pc := t.regs.pc } ∧
  (isMemory s (bankAddr 0x00#8 vec) = true → isMemory s (bankAddr 0x00#8 (vec + 1)) = true →
    t.regs.pc = word (t.byteAt (bankAddr 0x00#8 (vec + 1))) (t.byteAt (bankAddr 0x00#8 vec))) ∧
  sameOutside { s with run := .running } t ∧ ∀ a, t.byteAt a = pushed 0 (frame s.regs ret b) s a

/-! ### What a reset leaves (R37, R400; decision D1) -/

/-- From `s` to `t` the machine was reset: the registers R400 names have their values, PC is the word at the reset
vector, nothing pends, the processor runs, memory and parameters are as they were. A, B, XL, YL, SL, N, V, Z, C are
free. -/
def resets (s t : State) : Prop :=
  t.regs.e = true ∧ t.regs.p.m = true ∧ t.regs.p.x = true ∧ t.regs.p.i = true ∧ t.regs.p.d = false ∧
    hi t.regs.sp = 0x01#8 ∧ hi t.regs.x = 0x00#8 ∧ hi t.regs.y = 0x00#8 ∧ t.regs.dr = 0x0000#16 ∧
    t.regs.dbr = 0x00#8 ∧ t.regs.pbr = 0x00#8 ∧ t.run = .running ∧ t.nmiPending = false ∧
    (isMemory s 0x00FFFC#24 = true → isMemory s 0x00FFFD#24 = true →
      t.regs.pc = word (s.byteAt 0x00FFFD#24) (s.byteAt 0x00FFFC#24)) ∧
    t.mem = s.mem ∧ t.params = s.params

/-! ### Shifts, counts, decimal digits -/

/-- The result and C of a shift or count of a value `v` of `w` bits, C being `c` before (R182 to R187). -/
def modified (k : Mnemonic) (w v : Nat) (c : Bool) : Nat × Bool :=
  match k with
  | .ror => (c.toNat * 2 ^ (w - 1) + v / 2, decide (v % 2 = 1))
  | .asl => (v * 2 % 2 ^ w, decide (2 ^ (w - 1) ≤ v))
  | .lsr => (v / 2, decide (v % 2 = 1))
  | .rol => ((v * 2 + c.toNat) % 2 ^ w, decide (2 ^ (w - 1) ≤ v))
  | .inc => ((v + 1) % 2 ^ w, c)
  | .dec => ((v + 2 ^ w - 1) % 2 ^ w, c)
  | _ => (v, c)

/-- The six mnemonics of `modified`. -/
def modifiers : List Mnemonic := [.ror, .asl, .lsr, .rol, .inc, .dec]

/-- Their accumulator forms (R125). -/
def accumulatorForms : List Instr := [.rorAcc, .aslAcc, .lsrAcc, .rolAcc, .incAcc, .decAcc]

/-- Digit `k`, four bits. -/
def digit (v : Word) (k : Nat) : Nat := v.toNat / 16 ^ k % 16

/-- Every digit of the width is 0 to 9 (R169). -/
def isBcd (flag : Bool) (v : Word) : Bool := (List.range (bits flag / 4)).all fun k => decide (digit v k ≤ 9)

/-- `dec(v)`: the number the decimal digits spell (R169). -/
def decimal (flag : Bool) (v : Word) : Nat :=
  digit v 0 + 10 * digit v 1 + if flag then 0 else 100 * digit v 2 + 1000 * digit v 3

/-- Repeat one instruction: `n` times, each on what the one before leaves. -/
def repeated (i : Instr) : Nat → State → Result
  | 0, s => .next s
  | n + 1, s =>
    match exec i s with
    | .next t => repeated i n t
    | .fault f => .fault f
    | .refused r => .refused r

/-- The address of the pointer of `(a,x)`, byte `k`: in bank 00 by the source's formula, in bank PBR by the parameter's
other setting (R143, decision D27). -/
def indexedPointer (s : State) (a : Word) (k : Nat) : Addr :=
  bankAddr (if s.params.jmpPointerBank = .bank00 then 0x00#8 else s.regs.pbr) (a + s.regs.x + BitVec.ofNat 16 k)

/-- X or Y `n` passes on, modulo 2^w. -/
def passed (p : Params) (negative : Bool) (flag : Bool) (n : Nat) (v : Word) : Word :=
  low flag (if (p.blockMoveDirection = .source) = (negative = true) then v - BitVec.ofNat 16 n
    else v + BitVec.ofNat 16 n)

/-! ### The accesses of an instruction, in order (R67, R69; decision D20) -/

/-- One access to a byte: its address, and the byte where it is a write. -/
abbrev Access := Addr × Option Byte

/-- What a device sees of an access; what it answers to a read is its own (log 5). -/
def shown : DeviceAccess → Access
  | .read a _ => (a, none)
  | .write a v => (a, some v)

/-- From `s` to `t` devices saw those of the accesses whose address is a device's, in this order, and no other. -/
def devicesSee (as : List Access) (s t : State) : Prop :=
  ∃ l, t.deviceLog = l ++ s.deviceLog ∧ (l.map shown).reverse = as.filter fun a => decide (s.kindAt a.1 = .device)

/-- Reads of the addresses. -/
def reads (as : List Addr) : List Access := as.map fun a => (a, none)

/-- A 16-bit address in bank 00, from a number. -/
def at16 (n : Nat) : Addr := BitVec.ofNat 24 (n % 65536)

/-- EMU_PAGE_WRAP = page is in force (R150). -/
def pageInForce (s : State) : Bool :=
  decide (s.params.emuPageWrap = .page) && s.regs.e && decide (lo s.regs.dr = 0x00#8)

/-- The two bytes of the pointer at `00:n` of `(d)`, `(d),y`, `(d,x)`: inside its page where the wrap is in force. -/
def pagePointer (s : State) (n : Nat) : List Addr :=
  [at16 n, at16 (if pageInForce s then n / 256 * 256 + (n + 1) % 256 else n + 1)]

/-- The pointer bytes of a mode, ascending (R134 to R139). -/
def pointerBytes (md : MemMode) (s : State) : List Addr :=
  let r := s.regs
  match md with
  | .dpInd o | .dpIndY o => pagePointer s ((r.dr.toNat + o.toNat) % 65536)
  | .dpXInd o =>
    pagePointer s (if pageInForce s then (hi r.dr).toNat * 256 + (o.toNat + (lo r.x).toNat) % 256
      else (r.dr.toNat + o.toNat + r.x.toNat) % 65536)
  | .srIndY o => [at16 (r.sp.toNat + o.toNat), at16 (r.sp.toNat + o.toNat + 1)]
  | .dpLongInd o | .dpLongIndY o =>
    [at16 (r.dr.toNat + o.toNat), at16 (r.dr.toNat + o.toNat + 1), at16 (r.dr.toNat + o.toNat + 2)]
  | .abs _ | .absX _ | .absY _ | .long _ | .longX _ | .dp _ | .dpX _ | .dpY _ | .sr _ => []

/-- The bytes of an operand, the low byte first. -/
def operandBytes (ea : EA) (flag : Bool) : List Addr :=
  if flag then [ea.byteAddr 0] else [ea.byteAddr 0, ea.byteAddr 1]

/-- The writes of a store, the low byte first. -/
def writesLowFirst (ea : EA) (flag : Bool) (v : Word) : List Access :=
  if flag then [(ea.byteAddr 0, some (lo v))] else [(ea.byteAddr 0, some (lo v)), (ea.byteAddr 1, some (hi v))]

/-- The accesses of an instruction whose operand is in memory: the pointer; then the read, the store, or the read and
the write back, the high byte first. -/
def memoryAccesses (k : Mnemonic) (md : MemMode) (s : State) : List Access :=
  let r := s.regs
  let ea := (effAddr md s).1
  let m := (loadMem md r.wA s).1
  let writeBack := fun v => reads (operandBytes ea r.p.m) ++ (writesLowFirst ea r.p.m v).reverse
  reads (pointerBytes md s) ++
    match k with
    | .sta => writesLowFirst ea r.p.m r.c
    | .stx => writesLowFirst ea r.p.x r.x
    | .sty => writesLowFirst ea r.p.x r.y
    | .stz => writesLowFirst ea r.p.m 0x0000#16
    | .trb => writeBack (m &&& ~~~(acc r))
    | .tsb => writeBack (m ||| acc r)
    | .ror | .asl | .lsr | .rol | .inc | .dec => writeBack (BitVec.ofNat 16 (modified k (bits r.p.m) m.toNat r.p.c).1)
    | .ldx | .ldy | .cpx | .cpy => reads (operandBytes ea r.p.x)
    | _ => reads (operandBytes ea r.p.m)

/-- The writes of a push, `k` bytes being pushed already. -/
def pushWrites : Nat → List Byte → Regs → List Access
  | _, [], _ => []
  | k, b :: bs, r => (slot r (-(k : Int)), some b) :: pushWrites (k + 1) bs r

/-- The reads of a pull of `n` bytes, ascending. -/
def pullReads (n : Nat) (r : Regs) : List Access := (List.range n).map fun k => (slot r ((k + 1 : Nat) : Int), none)

/-- The two bytes from `00:a` on, inside the bank. -/
def vectorReads (a : Word) : List Access := reads [bankAddr 0x00#8 a, bankAddr 0x00#8 (a + 1)]

/-- The accesses of the instructions whose operand is on the stack or through a vector or a pointer, for any operand
bytes `o`, `a`, `al`: pushes, pulls, vectors, pointers. -/
def stackAndPointerAccesses (s : State) (o : Byte) (a : Word) (al : Addr) : List (Instr × List Access) :=
  let r := s.regs
  [(.pha, pushWrites 0 (pushBytes r.p.m r.c) r),
   (.phb, pushWrites 0 [r.dbr] r),
   (.phd, pushWrites 0 (pushWord r.dr) r),
   (.phk, pushWrites 0 [r.pbr] r),
   (.php, pushWrites 0 [image r.e true r.p] r),
   (.phx, pushWrites 0 (pushBytes r.p.x r.x) r),
   (.phy, pushWrites 0 (pushBytes r.p.x r.y) r),
   (.pea a, pushWrites 0 (pushWord a) r),
   (.per a, pushWrites 0 (pushWord (r.pc + 3 + a)) r),
   (.pei o, vectorReads (r.dr + zext o) ++ pushWrites 0 (pushWord (read16 (EA.b0 (r.dr + zext o)) s).1) r),
   (.pla, pullReads (bits r.p.m / 8) r),
   (.plx, pullReads (bits r.p.x / 8) r),
   (.ply, pullReads (bits r.p.x / 8) r),
   (.plb, pullReads 1 r),
   (.plp, pullReads 1 r),
   (.pld, pullReads 2 r),
   (.rts, pullReads 2 r),
   (.rtl, pullReads 3 r),
   (.rti, pullReads (if r.e then 3 else 4) r),
   (.brk o, pushWrites 0 (frame r (r.pc + 2) true) r ++ vectorReads (if r.e then 0xFFFE#16 else 0xFFE6#16)),
   (.cop o, pushWrites 0 (frame r (r.pc + 2) (Config.freeBit s.draws)) r ++
      vectorReads (if r.e then 0xFFF4#16 else 0xFFE4#16)),
   (.jsrAbs a, pushWrites 0 (pushWord (r.pc + 2)) r),
   (.jsrAbsXInd a, pushWrites 0 (pushWord (r.pc + 2)) r ++ reads [indexedPointer s a 0, indexedPointer s a 1]),
   (.jsl al, pushWrites 0 (r.pbr :: pushWord (r.pc + 3)) r),
   (.jmpAbs a, []),
   (.jmpLong al, []),
   (.jmpAbsInd a, vectorReads a),
   (.jmpAbsXInd a, reads [indexedPointer s a 0, indexedPointer s a 1]),
   (.jml a, vectorReads a ++ reads [bankAddr 0x00#8 (a + 2)])]

/-- The mnemonics of `stackAndPointerAccesses`, and the block moves. -/
def stackAndPointerUsers : List Mnemonic :=
  [.pha, .phb, .phd, .phk, .php, .phx, .phy, .pea, .per, .pei, .pla, .plx, .ply, .plb, .plp, .pld, .rts, .rtl, .rti,
   .brk, .cop, .jsr, .jsl, .jmp, .jml, .mvn, .mvp]

/-! ### Groups of mnemonics -/

/-- Who stores to memory when the operand is not the accumulator (R67). -/
def storers : List Mnemonic :=
  [.sta, .stx, .sty, .stz, .asl, .lsr, .rol, .ror, .inc, .dec, .trb, .tsb, .pha, .phb, .phd, .phk, .php, .phx, .phy,
   .pea, .pei, .per, .jsr, .jsl, .brk, .cop, .mvn, .mvp]

/-- Who writes the accumulator, at its width (R38). -/
def accWriters : List Mnemonic :=
  [.adc, .and, .eor, .lda, .ora, .sbc, .asl, .lsr, .rol, .ror, .inc, .dec, .txa, .tya, .pla]

/-- Who writes all of C, whatever M is (R38). -/
def wholeCWriters : List Mnemonic := [.tdc, .tsc, .xba, .mvn, .mvp]

/-- Who writes X; the last four where they narrow it (R38, R35). -/
def xWriters : List Mnemonic := [.ldx, .inx, .dex, .tax, .tsx, .tyx, .plx, .mvn, .mvp, .sep, .plp, .rti, .xce]

/-- Who writes Y; the last four where they narrow it (R38, R35). -/
def yWriters : List Mnemonic := [.ldy, .iny, .dey, .tay, .txy, .ply, .mvn, .mvp, .sep, .plp, .rti, .xce]

/-- Who writes S (R38). -/
def sWriters : List Mnemonic :=
  [.txs, .tcs, .pha, .phb, .phd, .phk, .php, .phx, .phy, .pla, .plb, .pld, .plp, .plx, .ply, .pea, .pei, .per,
   .jsr, .jsl, .rts, .rtl, .rti, .brk, .cop, .xce]

/-- Who loads all of P (R32). -/
def pLoaders : List Mnemonic := [.rep, .sep, .plp, .rti]

/-- Who writes N (R32). -/
def nWriters : List Mnemonic :=
  [.adc, .and, .cmp, .eor, .lda, .ora, .sbc, .bit, .ror, .asl, .lsr, .rol, .inc, .dec, .ldx, .ldy, .cpx, .cpy, .inx,
   .iny, .dex, .dey, .tax, .tay, .tsx, .txa, .txs, .txy, .tya, .tyx, .tcd, .tdc, .tsc, .xba, .pla, .plb, .pld, .plx,
   .ply, .rep, .sep, .plp, .rti]

/-- Who writes V (R32). -/
def vWriters : List Mnemonic := [.adc, .sbc, .bit, .clv, .rep, .sep, .plp, .rti]

/-- Who writes C (R32). -/
def cWriters : List Mnemonic :=
  [.adc, .sbc, .cmp, .cpx, .cpy, .ror, .asl, .lsr, .rol, .clc, .sec, .xce, .rep, .sep, .plp, .rti]

end Sys2Proof.Spec

open Sys2Proof Sys2Proof.Machine Sys2Proof.Spec

/-! ### Encoding -/

/-- Words written out from the matrix (R95) and the operand rules (R94), at least one of every group, under both widths
where the flags matter (R93). DB is STP by the spec's own resolution C1 (its source prints D8 there; decision D32, log
21), 00 is BRK by C2 (its source prints BLK). -/
def Obligations.SampleWordsDecode : Prop :=
  decode true true [0x69#8, 0x34#8, 0x12#8] = .ok (.adcImm 0x0034#16, [0x12#8]) ∧
  decode false true [0x69#8, 0x34#8, 0x12#8] = .ok (.adcImm 0x1234#16, []) ∧
  decode true true [0xAF#8, 0x56#8, 0x34#8, 0x12#8] = .ok (.ldaLong 0x123456#24, []) ∧
  decode true true [0x91#8, 0x20#8] = .ok (.staDpIndY 0x20#8, []) ∧
  decode true true [0x0E#8, 0x00#8, 0x20#8] = .ok (.aslAbs 0x2000#16, []) ∧
  decode true true [0xC2#8, 0x30#8] = .ok (.rep 0x30#8, []) ∧
  decode true true [0xA2#8, 0x00#8, 0x80#8] = .ok (.ldxImm 0x0000#16, [0x80#8]) ∧
  decode true false [0xA2#8, 0x00#8, 0x80#8] = .ok (.ldxImm 0x8000#16, []) ∧
  decode true true [0xFB#8] = .ok (.xce, []) ∧
  decode true true [0xDB#8] = .ok (.stp, []) ∧
  decode true true [0xF4#8, 0x34#8, 0x12#8] = .ok (.pea 0x1234#16, []) ∧
  decode true true [0x00#8, 0xEA#8] = .ok (.brk 0xEA#8, []) ∧
  decode true true [0xD0#8, 0xF9#8] = .ok (.bne 0xF9#8, []) ∧
  decode true true [0x7C#8, 0x00#8, 0x03#8] = .ok (.jmpAbsXInd 0x0300#16, []) ∧
  decode true true [0x54#8, 0x7F#8, 0x7E#8] = .ok (.mvn 0x7F#8 0x7E#8, []) ∧
  decode true true [] = .error .noOpcode ∧
  decode true true [0x22#8, 0x00#8] = .error (.truncated 0x22#8)

/-- Decoding the encoding of a well-formed instruction, whatever bytes follow, gives the instruction and leaves the
bytes that follow: no bit of an encoding is dropped (R91, R94, R95, R96). -/
def Obligations.EncodingsRoundTrip : Prop :=
  ∀ (i : Instr) (m x : Bool) (rest : List Byte), i.wellFormed m x = true →
    decode m x (encode m x i ++ rest) = .ok (i, rest)

/-- Whatever decodes is a well-formed instruction, and encoding it gives back exactly the bytes it was read from: every
encoding has one meaning and no two words share one (R90, R91, R94, R97). -/
def Obligations.DecodedBytesReencode : Prop :=
  ∀ (m x : Bool) (bs rest : List Byte) (i : Instr), decode m x bs = .ok (i, rest) →
    i.wellFormed m x = true ∧ encode m x i ++ rest = bs

/-- Every opcode byte is an instruction of one to four bytes, the same one under all M and X flags (R98), so decoding
never fails on four bytes (R90); D8 is CLD, 42 is WDM, and DB is STP by the spec's own resolution C1 of its source
(decision D32, log 21). -/
def Obligations.EveryOpcodeIsAnInstruction : Prop :=
  (∀ (op b1 b2 b3 : Byte) (m x m' x' : Bool) (rest : List Byte), ∃ i rest' j rest'',
    decode m x (op :: b1 :: b2 :: b3 :: rest) = .ok (i, rest') ∧
    decode m' x' (op :: b1 :: b2 :: b3 :: rest) = .ok (j, rest'') ∧
    (encode m x i).head? = some op ∧ 1 ≤ (encode m x i).length ∧ (encode m x i).length ≤ 4 ∧
    rest'.length + (encode m x i).length = rest.length + 4 ∧
    j.mnemonic = i.mnemonic ∧ j.mode = i.mode) ∧
  decode true true [0xD8#8] = .ok (.cld, []) ∧ decode true true [0xDB#8] = .ok (.stp, []) ∧
  ∀ b : Byte, decode true true [0x42#8, b] = .ok (.wdm b, [])

/-- The length of every instruction: the immediates of ADC AND CMP EOR LDA ORA SBC BIT take 2 bytes if M = 1 and 3 if
M = 0, those of LDX LDY CPX CPY 2 if X = 1 and 3 if X = 0, REP and SEP always 2, every other instruction the byte
count of its format and mode, whatever the flags (R91, R93). -/
def Obligations.InstructionLengths : Prop :=
  ∀ (i : Instr) (m x : Bool),
    (encode m x i).length =
      if i.mode = .immediate then
        if i.mnemonic ∈ [.adc, .and, .cmp, .eor, .lda, .ora, .sbc, .bit] then (if m then 2 else 3)
        else if i.mnemonic ∈ [.ldx, .ldy, .cpx, .cpy] then (if x then 2 else 3)
        else 2
      else if i.mode ∈ [.absolute, .absoluteX, .absoluteY, .absoluteIndirect, .absoluteIndexedIndirect, .relativeLong,
          .xyc] ∨ i.mnemonic ∈ [.pea, .per] then 3
      else if i.mode ∈ [.absoluteLong, .absoluteLongX] then 4
      else if i.mode = .accumulator then 1
      else if i.mode ∈ [.implied, .stack] ∧ i.mnemonic ∉ [.wdm, .brk, .cop, .pei] then 1
      else 2

/-! ### The step -/

/-- Where no input, reset, NMI or IRQ comes first, the processor runs, and the bytes at PBR:PC are memory that decodes
to `i` under the current M and X, the step is `exec` of `i` on this very state: the fetch changes nothing, and moving
past the instruction is the meaning's own. Byte `k` is fetched at PBR:((PC + k) mod 2^16), inside the bank (R27, R92).
That the fetch comes after the platform's inputs and before the data accesses is decisions D16, D17 and D21 (R77, R362;
log 12, log 29). -/
def Obligations.StepRunsDecodedInstruction : Prop :=
  ∀ (s : State) (n : Nat),
    s.codeBytes n = (List.range n).map (fun k => s.byteAt (codeAddr s.regs k)) ∧
    (s.codeInMemory n = true ↔ ∀ k < n, isMemory s (codeAddr s.regs k) = true) ∧
    ∀ i : Instr, s.undisturbed = true → s.codeInMemory n = true →
      decode s.regs.p.m s.regs.p.x (s.codeBytes n) = .ok (i, []) → step s = exec i s

/-- The order of one step, the platform's input taken first: RESET; stopped; NMI, then IRQ with I = 0, enter their
handlers with the current PC and break bit 0; waiting goes on waiting unless IRQ is asserted, which with I = 1 wakes it
without a handler; else the instruction at PBR:PC runs, its bytes where StepRunsDecodedInstruction says (R355, R359 to
R362, R365, R366; the spec's decisions D16 to D19). The vectors are those of R352, decision D2; the frame is that of
R355, decisions D3 and D12, its order of bytes and its page decisions D5 and D15; only RAM takes it (decision D22, log
25); RESET does what ResetLineResets says (R400, decision D1). The platform's inputs and the one sampling point of a
step are log 12 and log 27, that a stopped processor steps to itself and records an NMI event only log 23 and log 28,
the fetch log 29. -/
def Obligations.BoundaryOrder : Prop :=
  ∀ (s t : State), s.inv = true → takeInput s = t →
    (t.resetLine = true → step s = .next (resetSequence t)) ∧
    (t.resetLine = false →
      (t.run = .stopped → step s = .next t) ∧
      (t.run ≠ .stopped →
        (t.nmiPending = true → ∃ u, step s = .next u ∧
          enters (if t.regs.e then 0xFFFA#16 else 0xFFEA#16) t.regs.pc false { t with nmiPending := false } u) ∧
        (t.nmiPending = false →
          (t.irqLine = true → t.regs.p.i = false → ∃ u, step s = .next u ∧
            enters (if t.regs.e then 0xFFFE#16 else 0xFFEE#16) t.regs.pc false t u) ∧
          (t.irqLine = false → t.run = .waiting → step s = .next t) ∧
          (∀ n i, (t.irqLine = false → t.run = .running) → (t.irqLine = true → t.regs.p.i = true) →
            t.codeInMemory n = true → decode t.regs.p.m t.regs.p.x (t.codeBytes n) = .ok (i, []) →
            step s = exec i { t with run := .running }))))

/-- No step ends in a fault or a refusal, in any state whatever (R90, R354: no other synchronous exception exists). A
stopped processor steps to itself (R366, decision D19; log 23); Fault has no constructor (log 24). -/
def Obligations.NoStepStops : Prop :=
  (∀ (i : Instr) (s : State), ∃ t, exec i s = .next t) ∧ ∀ s : State, ∃ t, step s = .next t

/-! ### Reset and the invariant -/

/-- What reset leaves (R37, R400; the spec's decision D1): E, M, X, I 1; D flag 0; SH 01H; XH, YH, DBR, PBR 00H; D
0000H; running; no NMI pending; PC the word at the reset vector of an empty memory. The zeros of A, B, XL, YL, SL, N, V,
Z, C are the model's choice (log 1) and are not stated; what empty memory reads as is too (log 3). -/
def Obligations.ResetState : Prop :=
  let r := State.reset.regs
  r.e = true ∧ r.p.m = true ∧ r.p.x = true ∧ r.p.i = true ∧ r.p.d = false ∧ hi r.sp = 0x01#8 ∧ hi r.x = 0x00#8 ∧
    hi r.y = 0x00#8 ∧ r.dr = 0x0000#16 ∧ r.dbr = 0x00#8 ∧ r.pbr = 0x00#8 ∧
    r.pc = word (State.reset.byteAt 0x00FFFD#24) (State.reset.byteAt 0x00FFFC#24) ∧
    State.reset.run = .running ∧ State.reset.nmiPending = false ∧ State.reset.mem = []

/-- The state after reset keeps the invariant. What the invariant says of E, M, X, SH, XH, YH follows from R37
(decision D1); that the empty memory is canonical is the model's (log 3). -/
def Obligations.ResetHoldsInvariant : Prop := State.reset.inv = true

/-- Every step keeps the invariant: M = X = 1 while E = 1, XH = YH = 00H while X = 1, SH = 01H while E = 1, memory in
its canonical form (R23, R24, R30, R35). Emulation mode's part is decisions D12, D13 and D15, the narrowing decision
D26, reset's part decision D1; the canonical form of memory is the model's (log 3, log 17). -/
def Obligations.StepKeepsInvariant : Prop := ∀ s t : State, s.inv = true → step s = .next t → t.inv = true

/-- While the platform asserts RESET a step resets the machine, whatever it was doing: the registers R400 names have
their values, PC is the word at the reset vector, nothing pends, the processor runs; memory and the lines are as they
were (the spec's decision D1). Nothing is said of A, B, XL, YL, SL, N, V, Z, C: they are free. The platform's input is
the model's field (log 12). -/
def Obligations.ResetLineResets : Prop :=
  ∀ s : State, (takeInput s).resetLine = true → ∃ t, step s = .next t ∧ resets s t ∧
    t.resetLine = true ∧ t.irqLine = (takeInput s).irqLine

/-! ### Group 1: accumulator and memory -/

/-- LDA, AND, EOR, ORA, every form: the operand, or its bitwise combination with `Acc`, to `Acc`, B kept at 8 bits, N
and Z of the result; no other flag or register, no memory (R162, R164 to R166). N and Z are those of R31, decision
D10. -/
def Obligations.LoadAndLogicalOperations : Prop :=
  ∀ (i : Instr) (s : State), i.mnemonic ∈ [.lda, .and, .eor, .ora] → ∃ o, i.dataOperand = some o ∧
    let a := acc s.regs
    let m := (loadOperand o s.regs.wA s).1
    let v := if i.mnemonic = .lda then m else if i.mnemonic = .and then a &&& m
      else if i.mnemonic = .eor then a ^^^ m else a ||| m
    completes i s { s.regs with
      c := mix s.regs.p.m s.regs.c v, p := nz s.regs.p.m v s.regs.p, pc := nextPC i s.regs }

/-- ADC with D = 0, every form: the sum reduced to the width, C the carry out, V = the signed sum is out of range, N and
Z of the result; B kept at 8 bits (R161, with the flag definitions of R31, decision D10). -/
def Obligations.BinaryAddition : Prop :=
  ∀ (i : Instr) (s : State), i.mnemonic = .adc → s.regs.p.d = false → ∃ o, i.dataOperand = some o ∧
    let f := s.regs.p.m
    let a := acc s.regs
    let m := (loadOperand o s.regs.wA s).1
    let sum := a.toNat + m.toNat + s.regs.p.c.toNat
    let v := wrap f sum
    completes i s { s.regs with
      c := mix f s.regs.c v
      p := { nz f v s.regs.p with
        c := decide (2 ^ bits f ≤ sum)
        v := outOfRange f (signed f a + signed f m + s.regs.p.c.toNat) }
      pc := nextPC i s.regs }

/-- SBC with D = 0, every form: `A - M - (1 - C)` reduced to the width, C = 1 where there is no borrow, V = the signed
difference is out of range, N and Z of the result (R167, with R31, decision D10). -/
def Obligations.BinarySubtraction : Prop :=
  ∀ (i : Instr) (s : State), i.mnemonic = .sbc → s.regs.p.d = false → ∃ o, i.dataOperand = some o ∧
    let f := s.regs.p.m
    let a := acc s.regs
    let m := (loadOperand o s.regs.wA s).1
    let borrow := (!s.regs.p.c).toNat
    let v := wrap f (a.toNat + 2 ^ bits f - m.toNat - borrow)
    completes i s { s.regs with
      c := mix f s.regs.c v
      p := { nz f v s.regs.p with
        c := decide (m.toNat + borrow ≤ a.toNat)
        v := outOfRange f (signed f a - signed f m - borrow) }
      pc := nextPC i s.regs }

/-- ADC and SBC with D = 1 on valid BCD: the decimal result modulo 10^k, C = decimal carry or no borrow, N and Z of the
result; V is a free value (log 2, log 10), the one draw after the operand is read (R169, decision D11). -/
def Obligations.DecimalOnBcd : Prop :=
  ∀ (i : Instr) (s : State), i.mnemonic ∈ [.adc, .sbc] → s.regs.p.d = true → ∃ o, i.dataOperand = some o ∧
    let f := s.regs.p.m
    let a := acc s.regs
    let m := (loadOperand o s.regs.wA s).1
    let c := s.regs.p.c
    let k : Nat := 10 ^ (bits f / 4)
    let total : Int := if i.mnemonic = .adc then decimal f a + decimal f m + c.toNat
      else decimal f a - decimal f m - (!c).toNat
    (isBcd f a = true → isBcd f m = true → ∃ v n l,
      v.toNat < 2 ^ bits f ∧ isBcd f v = true ∧ (decimal f v : Int) = total % (k : Int) ∧
      exec i s = .next { s with
        regs := { s.regs with
          c := mix f s.regs.c v
          p := { nz f v s.regs.p with
            v := Config.freeBit n
            c := if i.mnemonic = .adc then decide ((k : Int) ≤ total) else decide (0 ≤ total) }
          pc := nextPC i s.regs }
        draws := n + 1, deviceLog := l })

/-- ADC and SBC with D = 1 on an operand that is not BCD run on: `Acc`, N, V, Z, C are free values (log 2), B is kept at
8 bits (log 10), M, X, D, I, the other registers and memory do not change (R169, decision D11). -/
def Obligations.DecimalOnOtherOperands : Prop :=
  ∀ (i : Instr) (s : State), i.mnemonic ∈ [.adc, .sbc] → s.regs.p.d = true → ∃ o, i.dataOperand = some o ∧
    let f := s.regs.p.m
    let m := (loadOperand o s.regs.wA s).1
    (¬ (isBcd f (acc s.regs) = true ∧ isBcd f m = true) → ∃ n l, exec i s = .next { s with
      regs := { s.regs with
        c := mix f s.regs.c (Config.freeWord n)
        p := { s.regs.p with
          n := Config.freeBit (n + 1), v := Config.freeBit (n + 2), z := Config.freeBit (n + 3)
          c := Config.freeBit (n + 4) }
        pc := nextPC i s.regs }
      draws := n + 5, deviceLog := l })

/-- CMP, CPX, CPY, every form: N and Z of the difference at the width of the register compared, C = 1 where it is not
below the operand, unsigned; V, D and every register keep their values (R163, R203, R204; R31, decision D10). -/
def Obligations.Comparisons : Prop :=
  ∀ (i : Instr) (s : State) (f : Bool) (a : Word),
    (i.mnemonic = .cmp ∧ f = s.regs.p.m ∧ a = acc s.regs) ∨ (i.mnemonic = .cpx ∧ f = s.regs.p.x ∧ a = low f s.regs.x) ∨
      (i.mnemonic = .cpy ∧ f = s.regs.p.x ∧ a = low f s.regs.y) →
    ∃ o, i.dataOperand = some o ∧
      let m := (loadOperand o (Width.ofFlag f) s).1
      completes i s { s.regs with
        p := { nz f (wrap f (a.toNat + 2 ^ bits f - m.toNat)) s.regs.p with c := decide (m.toNat ≤ a.toNat) }
        pc := nextPC i s.regs }

/-- STA, STX, STY, STZ, every form: the register (or 0) at its width to the effective address, the low byte at the
first address and the high byte at the next of the mode's pattern; ROM and unpopulated addresses take nothing; no flag,
no register, no other byte changes (R168, R205, R206, R207). The next address is that of R65, R66 (decisions D8, D9,
log 21; D14 in emulation mode, log 7); that ROM and unpopulated addresses take nothing is R71, decision D22 (log
25). -/
def Obligations.StoresWriteTheirOperand : Prop :=
  ∀ (i : Instr) (s : State) (f : Bool) (v : Word), s.mem.wf = true →
    (i.mnemonic = .sta ∧ f = s.regs.p.m ∧ v = acc s.regs) ∨ (i.mnemonic = .stx ∧ f = s.regs.p.x ∧ v = low f s.regs.x) ∨
      (i.mnemonic = .sty ∧ f = s.regs.p.x ∧ v = low f s.regs.y) ∨
      (i.mnemonic = .stz ∧ f = s.regs.p.m ∧ v = 0x0000#16) →
    ∃ md, i.dataOperand = some (.mem md) ∧
      completesStoring i s { s.regs with pc := nextPC i s.regs } (stored (effAddr md s).1 f v s)

/-! ### Group 2: bit test, shifts and counts, status bits -/

/-- BIT, every form: Z = the bits of `Acc` and the operand have none in common; N and V the two top bits of the operand,
but for the immediate form, which leaves them; `Acc` and memory unchanged (R181). -/
def Obligations.BitTests : Prop :=
  ∀ (i : Instr) (s : State), i.mnemonic = .bit → ∃ o, i.dataOperand = some o ∧
    let w := bits s.regs.p.m
    let m := (loadOperand o s.regs.wA s).1
    let z := decide (acc s.regs &&& m = 0x0000#16)
    completes i s { s.regs with
      p := if i.mode = .immediate then { s.regs.p with z := z }
        else { s.regs.p with z := z, n := m.getLsbD (w - 1), v := m.getLsbD (w - 2) }
      pc := nextPC i s.regs }

/-- ROR, ASL, LSR, ROL, INC, DEC of the accumulator at its width: result, C, N and Z, B kept at 8 bits (R180, R182 to
R187; N and Z as R31 defines them, decision D10). -/
def Obligations.AccumulatorShiftsAndCounts : Prop :=
  ∀ (i : Instr) (s : State), i ∈ accumulatorForms →
    let f := s.regs.p.m
    let r := modified i.mnemonic (bits f) (acc s.regs).toNat s.regs.p.c
    let v := BitVec.ofNat 16 r.1
    exec i s = .next { s with regs := { s.regs with
      c := mix f s.regs.c v, p := { nz f v s.regs.p with c := r.2 }, pc := nextPC i s.regs } }

/-- The memory forms of the same six: the operand at the accumulator's width is replaced by the result at the same
address; N, Z and C as for the accumulator; no register and no other byte changes (R180, R182 to R187). An instruction
of these mnemonics is of one kind or the other. N, Z, C are those of R31, decision D10; the addresses those of R65, R66
(decisions D8, D9; D14, log 7), and only RAM takes the result (decision D22, log 25). -/
def Obligations.MemoryShiftsAndCounts : Prop :=
  ∀ (i : Instr) (s : State), s.mem.wf = true → i.mnemonic ∈ modifiers →
    i ∈ accumulatorForms ∨ ∃ md, i.dataOperand = some (.mem md) ∧
      let f := s.regs.p.m
      let r := modified i.mnemonic (bits f) (loadMem md s.regs.wA s).1.toNat s.regs.p.c
      let v := BitVec.ofNat 16 r.1
      completesStoring i s { s.regs with p := { nz f v s.regs.p with c := r.2 }, pc := nextPC i s.regs }
        (stored (effAddr md s).1 f v s)

/-- TRB and TSB, every form: Z = the tested bits were all 0; the operand with those bits reset or set goes back to its
address; no other flag, no register, no other byte (R190, R191). The addresses are those of R65, R66 (decisions D8, D9;
D14, log 7), and only RAM takes the result (decision D22, log 25). -/
def Obligations.TestAndModify : Prop :=
  ∀ (i : Instr) (s : State), s.mem.wf = true → i.mnemonic ∈ [.trb, .tsb] →
    ∃ md, i.dataOperand = some (.mem md) ∧
      let a := acc s.regs
      let m := (loadMem md s.regs.wA s).1
      completesStoring i s
        { s.regs with p := { s.regs.p with z := decide (a &&& m = 0x0000#16) }, pc := nextPC i s.regs }
        (stored (effAddr md s).1 s.regs.p.m (if i.mnemonic = .trb then m &&& ~~~a else m ||| a) s)

/-- REP and SEP: each flag whose bit in the immediate is 1 becomes 0, or 1; M and X only in native mode; XH and YH go to
00H where X becomes 1, and are not brought back where it becomes 0 (R188, R189, with the flag positions, the byte image
and the narrowing of R28, R34, R35; decision D12 for emulation mode). -/
def Obligations.StatusBitInstructions : Prop :=
  ∀ (s : State) (imm : Byte), s.regs.inv = true →
    exec (.rep imm) s = .next { s with regs := { withP s.regs (setBits s.regs.e (fun flag bit => flag && !bit) imm s.regs.p)
      with pc := s.regs.pc + 2 } } ∧
    exec (.sep imm) s = .next { s with regs := { withP s.regs (setBits s.regs.e (fun flag bit => flag || bit) imm s.regs.p)
      with pc := s.regs.pc + 2 } }

/-- ROR of the accumulator rotates through `w + 1` bits: `w + 1` of them restore the accumulator and C, PC being
`w + 1` bytes on (R182). -/
def Obligations.RorCycleRestores : Prop :=
  ∀ s : State, ∃ t, repeated .rorAcc (bits s.regs.p.m + 1) s = .next t ∧
    t.regs.c = s.regs.c ∧ t.regs.p.c = s.regs.p.c ∧ t.regs.pc = s.regs.pc + BitVec.ofNat 16 (bits s.regs.p.m + 1)

/-! ### Group 3: index registers and memory -/

/-- LDX and LDY, every form: the register takes the operand at the index width, its high byte 00H at 8 bits; N and Z of
the operand (R201, R202). N and Z are those of R31, decision D10. -/
def Obligations.LoadIndexRegister : Prop :=
  ∀ (i : Instr) (s : State), i.mnemonic ∈ [.ldx, .ldy] → ∃ o, i.dataOperand = some o ∧
    let f := s.regs.p.x
    let m := (loadOperand o s.regs.wX s).1
    completes i s { s.regs with
      x := if i.mnemonic = .ldx then low f m else s.regs.x
      y := if i.mnemonic = .ldy then low f m else s.regs.y
      p := nz f m s.regs.p, pc := nextPC i s.regs }

/-! ### Group 4: implied -/

/-- INX, INY, DEX, DEY: one up or down modulo 2^w, w the index width, N and Z of the result (R215 to R219). N and Z are
those of R31, decision D10. -/
def Obligations.IndexSteps : Prop :=
  ∀ s : State,
    let r := s.regs
    let f := r.p.x
    let up := fun v : Word => wrap f ((low f v).toNat + 1)
    let down := fun v : Word => wrap f ((low f v).toNat + 2 ^ bits f - 1)
    exec .inx s = .next { s with regs := { r with x := up r.x, p := nz f (up r.x) r.p, pc := r.pc + 1 } } ∧
    exec .iny s = .next { s with regs := { r with y := up r.y, p := nz f (up r.y) r.p, pc := r.pc + 1 } } ∧
    exec .dex s = .next { s with regs := { r with x := down r.x, p := nz f (down r.x) r.p, pc := r.pc + 1 } } ∧
    exec .dey s = .next { s with regs := { r with y := down r.y, p := nz f (down r.y) r.p, pc := r.pc + 1 } }

/-- TAX, TAY, TSX, TXY, TYX: the whole source reduced to the index width; TXA and TYA: all 16 bits when M = 0, the low
byte to A with B kept when M = 1; N and Z of the result at that width (R220 to R223, R225 to R227; the width is
decision D24). It is the spec's own resolution C4; N and Z are those of R31, decision D10. -/
def Obligations.IndexTransfers : Prop :=
  ∀ s : State,
    let r := s.regs
    let toX := fun v : Word =>
      Host.Outcome.next (φ := Fault) (ρ := Refusal) { s with regs := { r with
        x := wrap r.p.x v.toNat, p := nz r.p.x (wrap r.p.x v.toNat) r.p, pc := r.pc + 1 } }
    let toY := fun v : Word =>
      Host.Outcome.next (φ := Fault) (ρ := Refusal) { s with regs := { r with
        y := wrap r.p.x v.toNat, p := nz r.p.x (wrap r.p.x v.toNat) r.p, pc := r.pc + 1 } }
    let toAcc := fun v : Word =>
      Host.Outcome.next (φ := Fault) (ρ := Refusal) { s with regs := { r with
        c := mix r.p.m r.c v, p := nz r.p.m (low r.p.m v) r.p, pc := r.pc + 1 } }
    exec .tax s = toX r.c ∧ exec .tay s = toY r.c ∧ exec .tsx s = toX r.sp ∧ exec .txy s = toY r.x ∧
      exec .tyx s = toX r.y ∧ exec .txa s = toAcc r.x ∧ exec .tya s = toAcc r.y

/-- TXS and TCS: S takes all of X or C in native mode, SL alone in emulation mode, SH staying 01H; TCS leaves the
flags, TXS sets N and Z of X at the index width where the parameter SRC_TXS_SETS_NZ says so (R224, R236; decision D27).
N and Z are those of R31, decision D10; SH is R24, decisions D12 and D15. -/
def Obligations.TransfersToStackPointer : Prop :=
  ∀ s : State, s.regs.inv = true →
    let r := s.regs
    let toS := fun v : Word => if r.e then word 0x01#8 (lo v) else v
    exec .txs s = .next { s with regs := { r with
      sp := toS r.x, p := if s.params.txsSetsNZ then nz r.p.x (low r.p.x r.x) r.p else r.p, pc := r.pc + 1 } } ∧
    exec .tcs s = .next { s with regs := { r with sp := toS r.c, pc := r.pc + 1 } }

/-- CLC, CLD, CLI, CLV, SEC, SED, SEI: their one byte, the one flag they write, and nothing else but PC (R228 to R234;
what CLI and SEI mean for IRQ is BoundaryOrder's). -/
def Obligations.FlagInstructions : Prop :=
  (∀ m x : Bool, encode m x .clc = [0x18#8] ∧ encode m x .cld = [0xD8#8] ∧ encode m x .cli = [0x58#8] ∧
    encode m x .clv = [0xB8#8] ∧ encode m x .sec = [0x38#8] ∧ encode m x .sed = [0xF8#8] ∧
    encode m x .sei = [0x78#8]) ∧
  ∀ s : State,
    let p := s.regs.p
    let leaves := fun q : Status =>
      Host.Outcome.next (φ := Fault) (ρ := Refusal) { s with regs := { s.regs with p := q, pc := s.regs.pc + 1 } }
    exec .clc s = leaves { p with c := false } ∧ exec .cld s = leaves { p with d := false } ∧
    exec .cli s = leaves { p with i := false } ∧ exec .clv s = leaves { p with v := false } ∧
    exec .sec s = leaves { p with c := true } ∧ exec .sed s = leaves { p with d := true } ∧
    exec .sei s = leaves { p with i := true }

/-- TCD, TDC, TSC: all 16 bits whatever M is, N and Z of the 16-bit value; XBA swaps A and B whatever M is, N and Z of
the new A at 8 bits, and two of them restore C (R235, R237 to R239; decisions D24, D25). N and Z are those of R31,
decision D10. -/
def Obligations.SixteenBitTransfers : Prop :=
  ∀ s : State,
    let r := s.regs
    exec .tcd s = .next { s with regs := { r with dr := r.c, p := nz false r.c r.p, pc := r.pc + 1 } } ∧
    exec .tdc s = .next { s with regs := { r with c := r.dr, p := nz false r.dr r.p, pc := r.pc + 1 } } ∧
    exec .tsc s = .next { s with regs := { r with c := r.sp, p := nz false r.sp r.p, pc := r.pc + 1 } } ∧
    exec .xba s = .next { s with regs := { r with
      c := word (lo r.c) (hi r.c), p := nz true (word 0x00#8 (hi r.c)) r.p, pc := r.pc + 1 } } ∧
    ∃ t, repeated .xba 2 s = .next t ∧ t.regs.c = r.c

/-- XCE exchanges C and E; where E is then 1, M and X become 1, XH and YH 00H, SH 01H; where it is 0 nothing else
changes (R240, decision D13). CLC XCE switches to native mode, SEC XCE to emulation mode. -/
def Obligations.ExchangeCE : Prop :=
  ∀ s : State,
    let r := s.regs
    (r.p.c = false → exec .xce s =
      .next { s with regs := { r with p := { r.p with c := r.e }, e := false, pc := r.pc + 1 } }) ∧
    (r.p.c = true → exec .xce s = .next { s with regs := { r with
      p := { r.p with c := r.e, m := true, x := true }, e := true, x := word 0x00#8 (lo r.x), y := word 0x00#8 (lo r.y)
      sp := word 0x01#8 (lo r.sp), pc := r.pc + 1 } }) ∧
    (∃ t u, exec .clc s = .next t ∧ exec .xce t = .next u ∧ u.regs.e = false) ∧
    (∃ t u, exec .sec s = .next t ∧ exec .xce t = .next u ∧ u.regs.e = true)

/-- STP goes to the next instruction's address and stops the processor (R241); a stopped processor does nothing,
whatever the platform does, until RESET is asserted, an NMI event being recorded only (R362, R366, decision D19; log
12, log 23, log 28); then it resets, which leaves what R400 says, and runs. STP's opcode DB is the spec's own
resolution C1 (decision D32, log 21). The order of the step is decisions D16 and D17, what reset leaves decision D1. -/
def Obligations.StopUntilReset : Prop :=
  (∀ m x : Bool, encode m x .stp = [0xDB#8]) ∧
  ∀ s : State,
    exec .stp s = .next { s with regs := { s.regs with pc := s.regs.pc + 1 }, run := .stopped } ∧
    (s.run = .stopped → (takeInput s).resetLine = false → step s = .next (takeInput s)) ∧
    (s.run = .stopped → (takeInput s).resetLine = true → ∃ t, step s = .next t ∧ resets s t)

/-- WAI goes to the next instruction's address and waits (R242). From there, with IRQ asserted and I = 1, the step runs
the instruction after WAI and pushes nothing; with nothing asserted it goes on waiting (R365). The wake with I = 1 is
the source's; the rest of the wait and the order of the step are decisions D16, D17, D18, and the inputs are the
model's field (log 12). -/
def Obligations.WaitForInterrupt : Prop :=
  ∀ s : State,
    exec .wai s = .next { s with regs := { s.regs with pc := s.regs.pc + 1 }, run := .waiting } ∧
    (s.run = .waiting → s.inputs = [] → s.resetLine = false → s.nmiPending = false →
      (s.irqLine = false → step s = .next s) ∧
      (s.irqLine = true → s.regs.p.i = true → ∀ n i, s.codeInMemory n = true →
        decode s.regs.p.m s.regs.p.x (s.codeBytes n) = .ok (i, []) → step s = exec i { s with run := .running }))

/-- NOP, EA, changes nothing but PC, one byte on; WDM, 42 and any second byte, nothing but PC, two bytes on (R243,
R244). -/
def Obligations.NoOperations : Prop :=
  ∀ (s : State) (b : Byte),
    (∀ m x : Bool, encode m x .nop = [0xEA#8] ∧ encode m x (.wdm b) = [0x42#8, b]) ∧
    exec .nop s = .next { s with regs := { s.regs with pc := s.regs.pc + 1 } } ∧
    exec (.wdm b) s = .next { s with regs := { s.regs with pc := s.regs.pc + 2 } }

/-! ### Group 5: stack -/

/-- PHA, PHB, PHD, PHK, PHP, PHX, PHY, PEA, PEI, PER: the bytes go to bank 00 from S down, the high byte of a 16-bit
value first, S moves by their number (SL alone in emulation mode); no flag, no other register, no other byte (R261 to
R267, R274 to R276; decisions D5, D7, D12, D15). The order of the bytes is the spec's own resolution C5; PEI's pointer
lies in bank 00 and does not wrap in a page (R65, R150; decisions D8, D14); only RAM takes the bytes (R71, decision
D22, log 25). -/
def Obligations.Pushes : Prop :=
  ∀ (i : Instr) (s : State) (bs : List Byte) (a off : Word) (o : Byte), s.inv = true →
    (i, bs) ∈ [(Instr.pha, pushBytes s.regs.p.m s.regs.c), (.phb, [s.regs.dbr]), (.phd, pushWord s.regs.dr),
      (.phk, [s.regs.pbr]), (.php, [image s.regs.e true s.regs.p]), (.phx, pushBytes s.regs.p.x s.regs.x),
      (.phy, pushBytes s.regs.p.x s.regs.y), (.pea a, pushWord a),
      (.pei o, pushWord (read16 (EA.b0 (s.regs.dr + zext o)) s).1), (.per off, pushWord (s.regs.pc + 3 + off))] →
    completesStoring i s
      { s.regs with sp := moveS s.regs (-(bs.length : Int)), pc := nextPC i s.regs } (pushed 0 bs s)

/-- PLA, PLB, PLD, PLX, PLY: one byte or two above S, the low byte first, to the register, N and Z of the value, S
moved up; B kept at 8 bits, XH or YH 00H at 8 bits; nothing stored. Where the stack is in memory the value is its bytes
(R268 to R270, R272, R273; decisions D5, D15, D24). N and Z are those of R31, decision D10. -/
def Obligations.Pulls : Prop :=
  ∀ (i : Instr) (s : State) (f : Bool), s.inv = true →
    (i, f) ∈ [(Instr.pla, s.regs.p.m), (.plb, true), (.pld, false), (.plx, s.regs.p.x), (.ply, s.regs.p.x)] →
    ∃ v : Word,
    v = low f v ∧
    (stackInMemory (bits f / 8) s → v = low f (word (stackByte s 2) (stackByte s 1))) ∧
    completes i s { s.regs with
      c := if i = .pla then mix f s.regs.c v else s.regs.c
      dbr := if i = .plb then lo v else s.regs.dbr
      dr := if i = .pld then v else s.regs.dr
      x := if i = .plx then v else s.regs.x
      y := if i = .ply then v else s.regs.y
      sp := moveS s.regs (bits f / 8 : Nat), p := nz f v s.regs.p, pc := s.regs.pc + 1 }

/-- PLP loads the flags from the byte above S: M and X only in native mode, XH and YH 00H where X is then 1 (R271;
decision D12). The byte's place is R33, decision D15; emulation mode's part is the spec's own resolution C8 too. -/
def Obligations.PullStatus : Prop :=
  ∀ s : State, s.inv = true → ∃ v : Byte, (stackInMemory 1 s → v = stackByte s 1) ∧
    completes .plp s { withP s.regs (loadP s.regs.e v s.regs.p) with sp := moveS s.regs 1, pc := s.regs.pc + 1 }

/-- A push and the matching pull, where the stack is in RAM: PHA PLA, PHX PLX, PHY PLY, PHB PLB, PHD PLD restore every
register but PC and P, whose N and Z are those of the value pushed at its width, the other flags as they were; PHP PLP
restores all flags (R260, R265, R271; R31, decision D10). The order of the bytes and the stack's page are decisions D5
and D15 (C5), the widths decision D24, the image of P decision D12. -/
def Obligations.PullUndoesPush : Prop :=
  ∀ (i j : Instr) (p : Status) (s : State), s.inv = true → stackInRam 2 s →
    let r := s.regs
    (i, j, p) ∈ [(Instr.pha, Instr.pla, nz r.p.m (acc r) r.p), (.phx, .plx, nz r.p.x (low r.p.x r.x) r.p),
      (.phy, .ply, nz r.p.x (low r.p.x r.y) r.p), (.phb, .plb, nz true (word 0x00#8 r.dbr) r.p),
      (.phd, .pld, nz false r.dr r.p), (.php, .plp, r.p)] →
    ∃ t u, exec i s = .next t ∧ exec j t = .next u ∧ u.regs = { r with pc := r.pc + 2, p := p }

/-- BRK and COP enter their handlers, whatever I is, in both modes: the return address is two bytes past the opcode
inside the bank, the frame and vector those of the mode, I is set and D cleared after P is pushed; the second byte has
no effect (R277, R278, R352, R353, R355; decisions D2, D3, D31). COP's break bit in emulation mode is a free value (log
11). The image of P is decision D12, the order of the bytes and the stack's page decisions D5 and D15, the return
address decision D7, that only RAM takes the bytes D22 (log 25). -/
def Obligations.SoftwareInterrupts : Prop :=
  ∀ (s : State) (x : Byte), s.inv = true →
    (∃ t, exec (.brk x) s = .next t ∧
      enters (if s.regs.e then 0xFFFE#16 else 0xFFE6#16) (s.regs.pc + 2) true s t) ∧
    (∃ t, exec (.cop x) s = .next t ∧
      enters (if s.regs.e then 0xFFF4#16 else 0xFFE4#16) (s.regs.pc + 2) (Config.freeBit s.draws) s t)

/-- RTI loads P, then PC with nothing added, then in native mode PBR, from the bytes above S; in emulation mode PBR, M
and X stay (R279, R357; decision D4). The order of the bytes and the stack's page are decisions D5 and D15; emulation
mode's M and X are decision D12 and the resolution C8. -/
def Obligations.ReturnFromInterrupt : Prop :=
  ∀ s : State, s.inv = true → ∃ (v : Byte) (a : Word) (k : Byte),
    (stackInMemory (if s.regs.e then 3 else 4) s →
      v = stackByte s 1 ∧ a = word (stackByte s 3) (stackByte s 2) ∧ (s.regs.e = false → k = stackByte s 4)) ∧
    completes .rti s { withP s.regs (loadP s.regs.e v s.regs.p) with
      sp := moveS s.regs (if s.regs.e then 3 else 4), pc := a, pbr := if s.regs.e then s.regs.pbr else k }

/-- RTI undoes an entry, where the stack is in RAM: after BRK, COP, an NMI or an IRQ every register is back, PC at the
return address, all flags as they were; but in emulation mode PBR is lost and is 00H (R357, R363; decisions D3, D4).
The order of the bytes and the stack's page are decisions D5 and D15, the image of P decision D12, the entry of NMI and
IRQ decision D16 too; COP's free break bit is log 11. -/
def Obligations.RtiUndoesEntry : Prop :=
  ∀ (s t : State) (x : Byte) (ret : Word), s.inv = true → stackInRam 4 s →
    (exec (.brk x) s = .next t ∧ ret = s.regs.pc + 2 ∨ exec (.cop x) s = .next t ∧ ret = s.regs.pc + 2 ∨
      takeNmi s = t ∧ ret = s.regs.pc ∨ takeIrq s = t ∧ ret = s.regs.pc) →
    ∃ u, exec .rti t = .next u ∧
      u.regs = { s.regs with pc := ret, pbr := if s.regs.e then 0x00#8 else s.regs.pbr }

/-- RTS and RTL: PC is the pulled address plus 1 inside its bank, PBR stays or is pulled; no flag (R280, R281; decision
D6). The order of the bytes and the stack's page are decisions D5 and D15. -/
def Obligations.SubroutineReturns : Prop :=
  ∀ s : State, s.inv = true → ∃ (a b : Word) (k : Byte),
    (stackInMemory 2 s → a = word (stackByte s 2) (stackByte s 1)) ∧
    (stackInMemory 3 s → b = word (stackByte s 2) (stackByte s 1) ∧ k = stackByte s 3) ∧
    completes .rts s { s.regs with sp := moveS s.regs 2, pc := a + 1 } ∧
    completes .rtl s { s.regs with sp := moveS s.regs 3, pc := b + 1, pbr := k }

/-- A call and its return, where the stack is in RAM: JSR a or JSR (a,x) then RTS, and JSL then RTL, leave every
register as it was but PC, which is the address after the call (R280, R281, R320, R323, R324; decision D6). The order
of the bytes and the stack's page are decisions D5 and D15. -/
def Obligations.ReturnUndoesCall : Prop :=
  ∀ (s t : State) (a : Word) (al : Addr), s.inv = true → stackInRam 3 s →
    (exec (.jsrAbs a) s = .next t ∨ exec (.jsrAbsXInd a) s = .next t →
      ∃ u, exec .rts t = .next u ∧ u.regs = { s.regs with pc := s.regs.pc + 3 }) ∧
    (exec (.jsl al) s = .next t → ∃ u, exec .rtl t = .next u ∧ u.regs = { s.regs with pc := s.regs.pc + 4 })

/-! ### Groups 6 and 7: branches, jumps, calls -/

/-- Branches go to the next instruction's address plus the signed offset, inside the bank, when their condition holds,
else to the next instruction; BRL always; nothing else changes (R300 to R310; the base is decision D7). -/
def Obligations.Branches : Prop :=
  ∀ s : State,
    (∀ (i : Instr) (taken : Bool) (o : Byte),
      (i, taken) ∈ [(Instr.bcc o, !s.regs.p.c), (.bcs o, s.regs.p.c), (.beq o, s.regs.p.z), (.bmi o, s.regs.p.n),
        (.bne o, !s.regs.p.z), (.bpl o, !s.regs.p.n), (.bra o, true), (.bvc o, !s.regs.p.v), (.bvs o, s.regs.p.v)] →
      exec i s = .next { s with regs := { s.regs with
        pc := if taken then BitVec.ofInt 16 (s.regs.pc.toNat + 2 + o.toInt) else s.regs.pc + 2 } }) ∧
    ∀ off : Word, exec (.brl off) s = .next { s with regs := { s.regs with
      pc := BitVec.ofNat 16 (s.regs.pc.toNat + 3 + off.toNat) } }

/-- JMP a, JMP al, JMP (a), JMP (a,x) and JML (a): the new PC, and PBR for the long forms, from the operand or from the
pointer; nothing else changes (R321, R322). The pointer's bytes wrap inside their bank (decision D8, log 21). The pointer
of (a,x) is in bank 00, or in PBR by the parameter's other setting (decision D27, log 9); that it wraps inside PBR there
is the model's choice (log 33). The words are 4C, 5C, 6C, 7C, DC and the operand's bytes, low first. -/
def Obligations.Jumps : Prop :=
  ∀ (s : State) (a : Word) (al : Addr),
    (∀ m x : Bool,
      encode m x (.jmpAbs a) = [0x4C#8, lo a, hi a] ∧ encode m x (.jmpAbsInd a) = [0x6C#8, lo a, hi a] ∧
      encode m x (.jmpAbsXInd a) = [0x7C#8, lo a, hi a] ∧ encode m x (.jml a) = [0xDC#8, lo a, hi a] ∧
      encode m x (.jmpLong al) = [0x5C#8, lo (offsetOf al), hi (offsetOf al), bankOf al]) ∧
    exec (.jmpAbs a) s = .next { s with regs := { s.regs with pc := a } } ∧
    exec (.jmpLong al) s = .next { s with regs := { s.regs with
      pc := BitVec.ofNat 16 (al.toNat % 65536), pbr := BitVec.ofNat 8 (al.toNat / 65536) } } ∧
    (∃ v, completes (.jmpAbsInd a) s { s.regs with pc := v } ∧
      (isMemory s (bankAddr 0x00#8 a) = true → isMemory s (bankAddr 0x00#8 (a + 1)) = true →
        v = word (s.byteAt (bankAddr 0x00#8 (a + 1))) (s.byteAt (bankAddr 0x00#8 a)))) ∧
    (∃ v, completes (.jmpAbsXInd a) s { s.regs with pc := v } ∧
      (isMemory s (indexedPointer s a 0) = true → isMemory s (indexedPointer s a 1) = true →
        v = word (s.byteAt (indexedPointer s a 1)) (s.byteAt (indexedPointer s a 0)))) ∧
    ∃ v k, completes (.jml a) s { s.regs with pc := v, pbr := k } ∧
      (isMemory s (bankAddr 0x00#8 a) = true → isMemory s (bankAddr 0x00#8 (a + 1)) = true →
        isMemory s (bankAddr 0x00#8 (a + 2)) = true →
        v = word (s.byteAt (bankAddr 0x00#8 (a + 1))) (s.byteAt (bankAddr 0x00#8 a)) ∧
        k = s.byteAt (bankAddr 0x00#8 (a + 2)))

/-- JSR a, JSR (a,x) and JSL push the address of their own last byte, high byte first, JSL before it PBR, and go to
their target; for (a,x) the pointer is read after the push, in the bank and with the wrap that Jumps says (decisions
D8, D27; log 9, log 33). No flag, no other register, no other byte (R320, R323, R324; decision D6). The order of the
bytes and the stack's page are decisions D5 and D15 (C5), that only RAM takes the bytes decision D22 (log 25). -/
def Obligations.Calls : Prop :=
  ∀ (s : State) (a : Word) (al : Addr), s.inv = true →
    completesStoring (.jsrAbs a) s { s.regs with sp := moveS s.regs (-2), pc := a }
      (pushed 0 (pushWord (s.regs.pc + 2)) s) ∧
    (∃ v, completesStoring (.jsrAbsXInd a) s { s.regs with sp := moveS s.regs (-2), pc := v }
        (pushed 0 (pushWord (s.regs.pc + 2)) s) ∧
      (isMemory s (indexedPointer s a 0) = true → isMemory s (indexedPointer s a 1) = true →
        v = word (pushed 0 (pushWord (s.regs.pc + 2)) s (indexedPointer s a 1))
          (pushed 0 (pushWord (s.regs.pc + 2)) s (indexedPointer s a 0)))) ∧
    completesStoring (.jsl al) s
      { s.regs with
        sp := moveS s.regs (-3), pc := BitVec.ofNat 16 (al.toNat % 65536), pbr := BitVec.ofNat 8 (al.toNat / 65536) }
      (pushed 0 (s.regs.pbr :: pushWord (s.regs.pc + 3)) s)

/-! ### Group 8: block moves -/

/-- MVN and MVP where each pass is a step: DBR takes the destination bank, one byte goes from `source bank:X` to
`DBR:Y` whatever M is, X and Y step at the index width (MVN down and MVP up by the source, the other way by the
parameter); while C is not 0 it counts down and PC stays at the opcode, else C takes its final value and PC goes on. No
flag, no other byte (R340 to R343; decisions D23, D27). That a pass which goes on with a move sets DBR to the
destination bank again, and so stores there whatever DBR was, is the model's choice (log 32). That C counts the bytes
less one is the spec's own resolution C6; only RAM takes the byte (decision D22, log 25). The setting is the model's
field (log 8). -/
def Obligations.BlockMovePass : Prop :=
  ∀ (s : State) (negative : Bool) (dst src : Byte), s.mem.wf = true → s.params.blockMoveInterruptible = .perByte →
    let i := if negative then Instr.mvn dst src else Instr.mvp dst src
    let r := s.regs
    let last := decide (r.c = 0x0000#16)
    ∃ v, (isMemory s (bankAddr src r.x) = true → v = s.byteAt (bankAddr src r.x)) ∧
      completesStoring i s
        { r with
          dbr := dst, x := passed s.params negative r.p.x 1 r.x, y := passed s.params negative r.p.x 1 r.y
          c := if last then (if s.params.blockMoveFinalC = .zero then 0x0000#16 else 0xFFFF#16) else r.c - 1
          pc := if last then r.pc + 3 else r.pc }
        (fun a => if a = bankAddr dst r.y ∧ s.kindAt a = .ram then v else s.byteAt a)

/-- MVN and MVP where the whole move is a step: `C + 1` passes, so X and Y are `C + 1` steps on, C has its final value,
DBR is the destination bank and PC is past the instruction (R340 to R343; decisions D23, D27). That C counts the bytes
less one is the spec's own resolution C6. The setting is the model's field (log 8). -/
def Obligations.BlockMoveWhole : Prop :=
  ∀ (s : State) (negative : Bool) (dst src : Byte), s.params.blockMoveInterruptible = .atomic →
    let i := if negative then Instr.mvn dst src else Instr.mvp dst src
    let r := s.regs
    let n := r.c.toNat + 1
    ∃ t, exec i s = .next t ∧ sameOutside s t ∧
      t.regs = { r with
        dbr := dst, x := passed s.params negative r.p.x n r.x, y := passed s.params negative r.p.x n r.y
        c := if s.params.blockMoveFinalC = .zero then 0x0000#16 else 0xFFFF#16
        pc := r.pc + 3 }

/-- Without interrupts the two readings of R343 give the same final state: `C + 1` passes of the same instruction lead
to the very state of the whole move, but for the parameter itself. A step fetches the instruction again at each pass;
where the move overwrites its own bytes that is the model's choice (log 31). The loop and the setting are R340, R343,
decision D23 and the resolution C6; the setting is the model's field (log 8). -/
def Obligations.BlockMovePassesMakeTheWhole : Prop :=
  ∀ (s t : State) (negative : Bool) (dst src : Byte), s.params.blockMoveInterruptible = .atomic →
    let i := if negative then Instr.mvn dst src else Instr.mvp dst src
    let perByte := fun u : State => { u with params := { u.params with blockMoveInterruptible := .perByte } }
    exec i s = .next t → repeated i (s.regs.c.toNat + 1) (perByte s) = .next (perByte t)

/-! ### Rules over all instructions -/

/-- Who writes which register, over all 256 instructions (R38): C, and B alone where M is 1 (R21, R22), X, Y, S, D,
DBR, PBR (of the forms of JMP only `al`), E. What an entry and a return write is decisions D3 and D4, what XCE and
emulation mode do to X, Y, S is decisions D12 and D13. -/
def Obligations.RegisterWriters : Prop :=
  ∀ (i : Instr) (s t : State), s.inv = true → exec i s = .next t →
    (i.mnemonic ∉ accWriters ++ wholeCWriters → t.regs.c = s.regs.c) ∧
    (s.regs.p.m = true → i.mnemonic ∉ wholeCWriters → hi t.regs.c = hi s.regs.c) ∧
    (i.mnemonic ∉ xWriters → t.regs.x = s.regs.x) ∧ (i.mnemonic ∉ yWriters → t.regs.y = s.regs.y) ∧
    (i.mnemonic ∉ sWriters → t.regs.sp = s.regs.sp) ∧
    (i.mnemonic ∉ [.tcd, .pld] → t.regs.dr = s.regs.dr) ∧
    (i.mnemonic ∉ [.plb, .mvn, .mvp] → t.regs.dbr = s.regs.dbr) ∧
    (i.mnemonic ∉ [.jml, .jsl, .rtl, .rti, .brk, .cop] → (∀ al, i ≠ .jmpLong al) → t.regs.pbr = s.regs.pbr) ∧
    (i.mnemonic = .rti → s.regs.e = true → t.regs.pbr = s.regs.pbr) ∧
    (i.mnemonic ≠ .xce → t.regs.e = s.regs.e)

/-- Who writes which flag, over all 256 instructions (R32): BIT immediate does not write N or V; M and X change only in
native mode, or by XCE. D and I of an entry are R355, decision D3, for BRK and COP as the source has them; what M and X
do is decisions D12 and D13 and the resolution C8; N and Z of TXS are decision D27. -/
def Obligations.FlagWriters : Prop :=
  ∀ (i : Instr) (s t : State), exec i s = .next t →
    (i.mnemonic ∉ nWriters ∨ i.mnemonic = .bit ∧ i.mode = .immediate → t.regs.p.n = s.regs.p.n) ∧
    (i.mnemonic ∉ vWriters ∨ i.mnemonic = .bit ∧ i.mode = .immediate → t.regs.p.v = s.regs.p.v) ∧
    (i.mnemonic ∉ .xce :: pLoaders ∨ s.regs.e = true ∧ i.mnemonic ∈ pLoaders →
      t.regs.p.m = s.regs.p.m ∧ t.regs.p.x = s.regs.p.x) ∧
    (i.mnemonic ∉ [.cld, .sed, .brk, .cop, .rep, .sep, .plp, .rti] → t.regs.p.d = s.regs.p.d) ∧
    (i.mnemonic ∉ [.cli, .sei, .brk, .cop, .rep, .sep, .plp, .rti] → t.regs.p.i = s.regs.p.i) ∧
    (i.mnemonic ∉ .trb :: .tsb :: nWriters → t.regs.p.z = s.regs.p.z) ∧
    (i.mnemonic ∉ cWriters → t.regs.p.c = s.regs.p.c)

/-- Who stores, over all 256 instructions (R67): any other leaves every byte of memory. That BRK and COP push is
decision D3. -/
def Obligations.MemoryWriters : Prop :=
  ∀ (i : Instr) (s t : State), i.mnemonic ∉ storers ∨ i ∈ accumulatorForms → exec i s = .next t →
    ∀ a, t.byteAt a = s.byteAt a

/-- No step, whatever it does, changes a byte outside RAM or a parameter of the machine (R40, R71). The map is decision
D22 and the model's field (log 22, log 25); that nothing else writes memory is decision D33 (log 14). -/
def Obligations.OnlyRamChanges : Prop :=
  ∀ s t : State, s.mem.wf = true → step s = .next t →
    t.params = s.params ∧ ∀ a, s.kindAt a ≠ .ram → t.byteAt a = s.byteAt a

/-! ### Memory and addresses -/

/-- Byte order: a value stored at an address lies low byte first, from there up, and reads back whole; a 24-bit value is
read low, middle, bank; an operand of two or three bytes in the instruction stream, in every format that has one (F3, F4,
FM, FX), under all M and X flags, is read in the same order (R60, R94). That `a + 1` and `a + 2` go on at 000000H past
FFFFFFH is decision D9 (log 21). -/
def Obligations.LittleEndian : Prop :=
  (∀ (s : State) (a : Addr) (v : Word), s.mem.wf = true → (∀ k < 3, s.kindAt (a + BitVec.ofNat 24 k) = .ram) →
    let t := storeEA (.lin a) .w16 v s
    t.byteAt a = BitVec.ofNat 8 v.toNat ∧ t.byteAt (a + 1) = BitVec.ofNat 8 (v.toNat / 256) ∧
    (loadEA (.lin a) .w16 t).1 = v ∧ (loadEA (.lin a) .w8 t).1.toNat = v.toNat % 256 ∧
    (loadEA (.lin (a + 1)) .w8 t).1.toNat = v.toNat / 256 ∧
    (read24 (.lin a) t).1.toNat = v.toNat + 65536 * (s.byteAt (a + 2)).toNat) ∧
  (∀ b1 b2 b3 : Byte,
    decode true true [0x8D#8, b1, b2] = .ok (.staAbs (BitVec.ofNat 16 (b1.toNat + 256 * b2.toNat)), []) ∧
    decode true true [0x8F#8, b1, b2, b3] =
      .ok (.staLong (BitVec.ofNat 24 (b1.toNat + 256 * b2.toNat + 65536 * b3.toNat)), [])) ∧
  ∀ (m x : Bool) (op b1 b2 b3 : Byte) (rest : List Byte) (i : Instr), i.mnemonic ∉ [.mvn, .mvp] →
    (decode m x (op :: b1 :: b2 :: b3 :: rest) = .ok (i, b3 :: rest) →
      operandNumber i = some (b1.toNat + 256 * b2.toNat)) ∧
    (decode m x (op :: b1 :: b2 :: b3 :: rest) = .ok (i, rest) →
      operandNumber i = some (b1.toNat + 256 * b2.toNat + 65536 * b3.toNat))

/-- A wide access is its bytes, at every wrap pattern: what a 16-bit store to RAM leaves, a 16-bit load and the two
8-bit loads see, and every other byte is as before (R61, R65, R66, R73). The wraps are decisions D8, D9 and D14, and
that one agent's accesses come in program order is decision D20. -/
def Obligations.ReadAfterWrite : Prop :=
  ∀ (s : State) (ea : EA) (v : Word), s.mem.wf = true → s.kindAt (ea.byteAddr 0) = .ram →
    s.kindAt (ea.byteAddr 1) = .ram →
    let t := storeEA ea .w16 v s
    loadEA ea .w16 t = (v, t) ∧ loadEA ea .w8 t = (low true v, t) ∧ t.byteAt (ea.byteAddr 1) = hi v ∧
    (∀ a, a ≠ ea.byteAddr 0 → a ≠ ea.byteAddr 1 → t.byteAt a = s.byteAt a) ∧ t.mem.wf = true

/-- The operands of the modes without a pointer. An immediate is its value at the width (R121). Byte `k` of the others:
bank 00 and 16-bit sums for `d`, `d,x`, `d,y`, `d,s`, 24-bit sums for the rest; where those bytes are RAM or ROM, a
load gives them, the low byte first, and changes nothing. In emulation mode with DL = 00H and EMU_PAGE_WRAP = page,
`d,x` and `d,y` stay in the page (R122 to R124, R128 to R133, R150; decisions D8, D9, D14). The widths are those of M
and X (R28, R29). Which value of X is which width is the spec's own resolution C3; the wraps are R65, R66, log 21, and
the setting is the model's field (log 7). -/
def Obligations.EffectiveAddresses : Prop :=
  ∀ (s : State) (o : Byte) (a : Word) (al : Addr) (v : Word),
    let r := s.regs
    let in16 := fun (n k : Nat) => BitVec.ofNat 24 ((n + k) % 65536)
    let in24 := fun (n k : Nat) => BitVec.ofNat 24 (n + k)
    let page := s.params.emuPageWrap = .page ∧ r.e = true ∧ lo r.dr = 0x00#8
    let is := fun (md : MemMode) (f : Nat → Addr) =>
      (∀ k, (effAddr md s).1.byteAddr k = f k) ∧ (effAddr md s).2 = s ∧ loads md s f
    (r.wA = Width.ofFlag r.p.m ∧ r.wX = Width.ofFlag r.p.x) ∧
    (loadOperand (.imm v) (Width.ofFlag true) s = (word 0x00#8 (lo v), s) ∧
      loadOperand (.imm v) (Width.ofFlag false) s = (v, s)) ∧
    is (.dp o) (in16 (r.dr.toNat + o.toNat)) ∧
    (¬ page → is (.dpX o) (in16 (r.dr.toNat + o.toNat + r.x.toNat))) ∧
    (¬ page → is (.dpY o) (in16 (r.dr.toNat + o.toNat + r.y.toNat))) ∧
    (page → is (.dpX o) (in16 ((hi r.dr).toNat * 256 + (o.toNat + (lo r.x).toNat) % 256))) ∧
    (page → is (.dpY o) (in16 ((hi r.dr).toNat * 256 + (o.toNat + (lo r.y).toNat) % 256))) ∧
    is (.sr o) (in16 (r.sp.toNat + o.toNat)) ∧
    is (.abs a) (in24 (r.dbr.toNat * 65536 + a.toNat)) ∧
    is (.absX a) (in24 (r.dbr.toNat * 65536 + a.toNat + r.x.toNat)) ∧
    is (.absY a) (in24 (r.dbr.toNat * 65536 + a.toNat + r.y.toNat)) ∧
    is (.long al) (in24 al.toNat) ∧
    is (.longX al) (in24 (al.toNat + r.x.toNat))

/-- The operands of the modes with a pointer in memory: the pointer is in bank 00 and wraps there (or, for `(d)`,
`(d),y`, `(d,x)`, inside its page where EMU_PAGE_WRAP = page is in force); DBR completes a 16-bit pointer; Y is added
last, with carry into the next bank; where the bytes addressed are RAM or ROM a load gives them, the low byte first,
the second at the next 24-bit address, and changes nothing (R134 to R139, R150; decisions D8, D9, D14). The wraps are
R65, R66, log 21, and the setting is the model's field (log 7). -/
def Obligations.IndirectAddresses : Prop :=
  ∀ (s : State) (o : Byte) (p : Nat),
    let r := s.regs
    let page := s.params.emuPageWrap = .page ∧ r.e = true ∧ lo r.dr = 0x00#8
    let byte := fun (n : Nat) => (s.byteAt (at16 n)).toNat
    let second := fun (n : Nat) => if page then n / 256 * 256 + (n + 1) % 256 else n + 1
    let p16 := fun (n : Nat) => byte n + 256 * byte (second n)
    let inMem := fun (n : Nat) => isMemory s (at16 n) = true
    let is := fun (md : MemMode) (n : Nat) =>
      effAddr md s = (.lin (BitVec.ofNat 24 n), s) ∧ loads md s (fun k => BitVec.ofNat 24 (n + k))
    let d := (r.dr.toNat + o.toNat) % 65536
    let dx := if page then (hi r.dr).toNat * 256 + (o.toNat + (lo r.x).toNat) % 256
      else (r.dr.toNat + o.toNat + r.x.toNat) % 65536
    let sr := (r.sp.toNat + o.toNat) % 65536
    let bank := r.dbr.toNat * 65536
    (inMem d → inMem (second d) → is (.dpInd o) (bank + p16 d) ∧ is (.dpIndY o) (bank + p16 d + r.y.toNat)) ∧
    (inMem dx → inMem (second dx) → is (.dpXInd o) (bank + p16 dx)) ∧
    (inMem sr → inMem (sr + 1) → is (.srIndY o) (bank + byte sr + 256 * byte (sr + 1) + r.y.toNat)) ∧
    (inMem d → inMem (d + 1) → inMem (d + 2) → p = byte d + 256 * byte (d + 1) + 65536 * byte (d + 2) →
      is (.dpLongInd o) p ∧ is (.dpLongIndY o) (p + r.y.toNat))

/-- The order in which devices see accesses (R69, decision D20, log 26; the newest entry of `deviceLog` stands first;
further bus cycles are not modelled, R70, log 15). Of one operand: a 2-byte store low then high, the write of a
read-modify-write high then low, a 2-byte read low then high with what the device answers (log 5), a 16-bit push high
then low. Of every instruction but MVN and MVP, its fetch aside: devices see exactly its accesses that fall on them, in
order: the pointer ascending (that of (a,x) where Jumps says, log 33), then the operand read, stored or read and
written back; pushes in the order of their bytes, pulls and vectors ascending; none where the instruction has neither a
memory operand nor stack bytes nor a pointer. Of a pass of MVN or MVP: its read, then its write, in the destination
bank of the instruction whatever DBR was, for a pass that goes on with a move the model's choice (log 32). The accesses
are those of the statements of each family, by the decisions named there (D2 to D9, D12, D14, D15, D27). -/
def Obligations.DeviceAccessOrder : Prop :=
  (∀ (s : State) (ea : EA) (v : Word), s.kindAt (ea.byteAddr 0) = .device → s.kindAt (ea.byteAddr 1) = .device →
    (storeEA ea .w16 v s).deviceLog =
      .write (ea.byteAddr 1) (hi v) :: .write (ea.byteAddr 0) (lo v) :: s.deviceLog ∧
    (storeBackEA ea .w16 v s).deviceLog =
      .write (ea.byteAddr 0) (lo v) :: .write (ea.byteAddr 1) (hi v) :: s.deviceLog ∧
    (let l := Config.deviceAnswer s.draws (ea.byteAddr 0)
     let h := Config.deviceAnswer (s.draws + 1) (ea.byteAddr 1)
     (read16 ea s).1 = word h l ∧
      (read16 ea s).2.deviceLog = .read (ea.byteAddr 1) h :: .read (ea.byteAddr 0) l :: s.deviceLog) ∧
    (s.regs.inv = true → s.kindAt (slot s.regs 0) = .device → s.kindAt (slot s.regs (-1)) = .device →
      (push16 v s).deviceLog =
        .write (slot s.regs (-1)) (lo v) :: .write (slot s.regs 0) (hi v) :: s.deviceLog)) ∧
  ∀ (i : Instr) (s t : State), s.inv = true → exec i s = .next t →
    (∀ md, i.dataOperand = some (.mem md) → devicesSee (memoryAccesses i.mnemonic md s) s t) ∧
    (∀ o a al as, (i, as) ∈ stackAndPointerAccesses s o a al → devicesSee as s t) ∧
    ((∀ md, i.dataOperand ≠ some (.mem md)) → i.mnemonic ∉ stackAndPointerUsers → t.deviceLog = s.deviceLog) ∧
    ∀ dst src, i = .mvn dst src ∨ i = .mvp dst src → s.params.blockMoveInterruptible = .perByte →
      ∃ v, (isMemory s (bankAddr src s.regs.x) = true → v = s.byteAt (bankAddr src s.regs.x)) ∧
        devicesSee [(bankAddr src s.regs.x, none), (bankAddr dst s.regs.y, some v)] s t

/-- Where every address is RAM or ROM no instruction is seen by a device, and none draws a free value but ADC and SBC
with D = 1 and COP in emulation mode: everything else the machine does is determined by its state (R70, R169, R278; no
access beyond the architectural ones, log 15). The decisions are D11 for decimal mode (log 10), D12 for COP (log 11),
D20 for the accesses; that free values are counted is the model's (log 2). -/
def Obligations.FreeValuesOnlyWhereTheSpecLeavesThem : Prop :=
  ∀ (i : Instr) (s t : State), (∀ a, isMemory s a = true) → exec i s = .next t →
    t.deviceLog = s.deviceLog ∧
    (¬ (i.mnemonic ∈ [.adc, .sbc] ∧ s.regs.p.d = true) → ¬ (i.mnemonic = .cop ∧ s.regs.e = true) →
      t.draws = s.draws)
end

