-- ==== Sys2Proof/Laws/Bits.lean ====
section
/-! SUPPORT. What the byte and address helpers of Machine/Bits.lean do, as numbers and as inverses of each other. -/

namespace Sys2Proof.Machine

theorem lo_toNat (v : Word) : (lo v).toNat = v.toNat % 256 := by simp [lo]

theorem hi_toNat (v : Word) : (hi v).toNat = v.toNat / 256 := by
  have := v.isLt
  simp [hi, Nat.shiftRight_eq_div_pow]
  omega

theorem word_toNat (h l : Byte) : (word h l).toNat = h.toNat * 256 + l.toNat := by
  have := l.isLt
  simp only [word, BitVec.toNat_append]
  rw [Nat.shiftLeft_eq, Nat.mul_comm, ← Nat.two_pow_add_eq_or_of_lt this]

theorem bankAddr_toNat (b : Byte) (a : Word) : (bankAddr b a).toNat = b.toNat * 65536 + a.toNat := by
  have := a.isLt
  simp only [bankAddr, BitVec.toNat_append]
  rw [Nat.shiftLeft_eq, Nat.mul_comm, ← Nat.two_pow_add_eq_or_of_lt this]

theorem offsetOf_toNat (a : Addr) : (offsetOf a).toNat = a.toNat % 65536 := by simp [offsetOf]

theorem bankOf_toNat (a : Addr) : (bankOf a).toNat = a.toNat / 65536 := by
  have := a.isLt
  simp [bankOf, Nat.shiftRight_eq_div_pow]
  omega

theorem zext_toNat (b : Byte) : (zext b).toNat = b.toNat := by
  have := b.isLt
  simp [zext]
  omega

theorem zextAddr_toNat (v : Word) : (zextAddr v).toNat = v.toNat := by
  have := v.isLt
  simp [zextAddr]
  omega

@[simp] theorem lo_word (h l : Byte) : lo (word h l) = l := by
  apply BitVec.eq_of_toNat_eq
  have := l.isLt
  rw [lo_toNat, word_toNat]
  omega

@[simp] theorem hi_word (h l : Byte) : hi (word h l) = h := by
  apply BitVec.eq_of_toNat_eq
  have := l.isLt
  have := h.isLt
  rw [hi_toNat, word_toNat]
  omega

@[simp] theorem word_hi_lo (v : Word) : word (hi v) (lo v) = v := by
  apply BitVec.eq_of_toNat_eq
  rw [word_toNat, hi_toNat, lo_toNat]
  omega

@[simp] theorem bankOf_bankAddr (b : Byte) (a : Word) : bankOf (bankAddr b a) = b := by
  apply BitVec.eq_of_toNat_eq
  have := a.isLt
  rw [bankOf_toNat, bankAddr_toNat]
  omega

@[simp] theorem offsetOf_bankAddr (b : Byte) (a : Word) : offsetOf (bankAddr b a) = a := by
  apply BitVec.eq_of_toNat_eq
  have := a.isLt
  rw [offsetOf_toNat, bankAddr_toNat]
  omega

@[simp] theorem bankAddr_bankOf_offsetOf (a : Addr) : bankAddr (bankOf a) (offsetOf a) = a := by
  apply BitVec.eq_of_toNat_eq
  rw [bankAddr_toNat, bankOf_toNat, offsetOf_toNat]
  omega

/-- Two addresses of one bank are equal exactly when their offsets are. -/
theorem bankAddr_inj (b : Byte) {a a' : Word} : bankAddr b a = bankAddr b a' ↔ a = a' :=
  ⟨fun h => by simpa using congrArg offsetOf h, fun h => h ▸ rfl⟩

theorem word_zero_eq_zext (b : Byte) : word 0x00#8 b = zext b := by
  apply BitVec.eq_of_toNat_eq
  rw [word_toNat, zext_toNat]
  simp

@[simp] theorem lo_zext (b : Byte) : lo (zext b) = b := by rw [← word_zero_eq_zext, lo_word]

@[simp] theorem hi_zext (b : Byte) : hi (zext b) = 0x00#8 := by rw [← word_zero_eq_zext, hi_word]

end Sys2Proof.Machine
end

