-- ==== Sys2Proof/Laws/Decode.lean ====
section
/-! SUPPORT. What the decoder does on each format of row, said once per format (R91, R94). -/

namespace Sys2Proof

open Sys2Proof.Machine

theorem decode_f1 {op : Byte} {i : Instr} {m x : Bool} {rest : List Byte} (h : opRow op = .f1 i) :
    decode m x (op :: rest) = .ok (i, rest) := by
  simp [decode, h, Row.operandCount, Row.build]

theorem decode_f2 {op b : Byte} {k : Byte → Instr} {m x : Bool} {rest : List Byte} (h : opRow op = .f2 k) :
    decode m x (op :: b :: rest) = .ok (k b, rest) := by
  simp [decode, h, Row.operandCount, Row.build]

theorem decode_f3 {op : Byte} {a : Word} {k : Word → Instr} {m x : Bool} {rest : List Byte} (h : opRow op = .f3 k) :
    decode m x (op :: lo a :: hi a :: rest) = .ok (k a, rest) := by
  simp [decode, h, Row.operandCount, Row.build]

theorem decode_f3b {op b c : Byte} {k : Byte → Byte → Instr} {m x : Bool} {rest : List Byte}
    (h : opRow op = .f3b k) : decode m x (op :: b :: c :: rest) = .ok (k b c, rest) := by
  simp [decode, h, Row.operandCount, Row.build]

theorem decode_f4 {op : Byte} {a : Addr} {k : Addr → Instr} {m x : Bool} {rest : List Byte} (h : opRow op = .f4 k) :
    decode m x (op :: lo (offsetOf a) :: hi (offsetOf a) :: bankOf a :: rest) = .ok (k a, rest) := by
  simp [decode, h, Row.operandCount, Row.build]

/-- An immediate that fits the width is read back from the bytes of that width (R93, R94). -/
theorem immediate_eq {flag : Bool} {v : Word} (h : fitsWidth flag v = true) : immediate flag (lo v) (hi v) = v := by
  cases flag
  · simp [immediate]
  · have hv : v.toNat < 256 := by simpa [fitsWidth] using h
    apply BitVec.eq_of_toNat_eq
    simp only [immediate, if_true, word_toNat, lo_toNat]
    simp; omega

theorem decode_fm {op : Byte} {v : Word} {k : Word → Instr} {m x : Bool} {rest : List Byte} (h : opRow op = .fm k)
    (hv : fitsWidth m v = true) :
    decode m x (op :: ((if m then [lo v] else [lo v, hi v]) ++ rest)) = .ok (k v, rest) := by
  have hi := immediate_eq hv
  cases m
  · simp only [immediate] at hi
    simp [decode, h, Row.operandCount, Row.build, immediate]
  · simp only [immediate, if_true] at hi
    simp [decode, h, Row.operandCount, Row.build, immediate, hi]

theorem decode_fx {op : Byte} {v : Word} {k : Word → Instr} {m x : Bool} {rest : List Byte} (h : opRow op = .fx k)
    (hv : fitsWidth x v = true) :
    decode m x (op :: ((if x then [lo v] else [lo v, hi v]) ++ rest)) = .ok (k v, rest) := by
  have hi := immediate_eq hv
  cases x
  · simp only [immediate] at hi
    simp [decode, h, Row.operandCount, Row.build, immediate]
  · simp only [immediate, if_true] at hi
    simp [decode, h, Row.operandCount, Row.build, immediate, hi]

end Sys2Proof
end

