-- ==== Sys2Proof/Laws/Memory.lean ====
section
/-! SUPPORT. The laws of the list of memory cells: a read after a write, and that a write keeps the canonical form. -/

namespace Sys2Proof.Machine

theorem Memory.wfFrom_mono {lo lo' : Nat} (h : lo' ≤ lo) {m : Memory} (hm : m.wfFrom lo = true) :
    m.wfFrom lo' = true := by
  cases m with
  | nil => rfl
  | cons c rest =>
    simp only [Memory.wfFrom, Bool.and_eq_true, decide_eq_true_eq] at hm ⊢
    exact ⟨⟨⟨by omega, hm.1.1.2⟩, hm.1.2⟩, hm.2⟩

theorem Memory.get_below {low a : Nat} (h : a < low) {m : Memory} (hm : m.wfFrom low = true) :
    m.get a = Memory.unlisted := by
  induction m generalizing low with
  | nil => rfl
  | cons c rest ih =>
    simp only [Memory.wfFrom, Bool.and_eq_true, decide_eq_true_eq] at hm
    have hne : c.1 ≠ a := by omega
    simp only [Memory.get, hne, if_false]
    exact ih (by omega) hm.2

theorem Memory.get_put {m : Memory} {a : Nat} (v : Byte) (hm : m.wfFrom (a + 1) = true) (b : Nat) :
    (Memory.put a v m).get b = if b = a then v else m.get b := by
  unfold Memory.put
  by_cases hv : v = Memory.unlisted
  · by_cases hb : b = a
    · subst hb
      simp [hv, Memory.get_below (Nat.lt_succ_self b) hm]
    · simp [hv, hb]
  · by_cases hb : b = a
    · simp [hv, hb, Memory.get]
    · simp [hv, hb, Memory.get, Ne.symm hb]

/-- A read after a write of the canonical form. -/
theorem Memory.get_set_from {low : Nat} {m : Memory} (hm : m.wfFrom low = true) (a : Nat) (v : Byte) (b : Nat) :
    (m.set a v).get b = if b = a then v else m.get b := by
  induction m generalizing low with
  | nil => simpa [Memory.set] using Memory.get_put (m := []) v rfl b
  | cons c rest ih =>
    obtain ⟨k, u⟩ := c
    have h := hm
    simp only [Memory.wfFrom, Bool.and_eq_true, decide_eq_true_eq] at h
    simp only [Memory.set]
    split
    · rename_i hlt
      apply Memory.get_put
      simp only [Memory.wfFrom, Bool.and_eq_true, decide_eq_true_eq]
      exact ⟨⟨⟨by omega, h.1.1.2⟩, h.1.2⟩, h.2⟩
    · split
      · rename_i heq
        subst heq
        rw [Memory.get_put v h.2]
        by_cases hb : b = a
        · simp [hb]
        · simp [hb, Memory.get, Ne.symm hb]
      · rename_i hne
        by_cases hk : k = b
        · have : b ≠ a := by omega
          simp [Memory.get, hk, this]
        · simp [Memory.get, hk, ih h.2]

/-- A read after a write: the byte written at its address, what was there before elsewhere. -/
theorem Memory.get_set {m : Memory} (hm : m.wf = true) (a : Nat) (v : Byte) (b : Nat) :
    (m.set a v).get b = if b = a then v else m.get b := Memory.get_set_from hm a v b

theorem Memory.wfFrom_put {low a : Nat} (hl : low ≤ a) (ha : a < 2 ^ 24) (v : Byte) {m : Memory}
    (hm : m.wfFrom (a + 1) = true) : (Memory.put a v m).wfFrom low = true := by
  unfold Memory.put
  split
  · exact Memory.wfFrom_mono (by omega) hm
  · rename_i hv
    simp [Memory.wfFrom, hl, hv, hm]
    omega

theorem Memory.wfFrom_set {low a : Nat} (hl : low ≤ a) (ha : a < 2 ^ 24) (v : Byte) {m : Memory}
    (hm : m.wfFrom low = true) : (m.set a v).wfFrom low = true := by
  induction m generalizing low with
  | nil => exact Memory.wfFrom_put hl ha v rfl
  | cons c rest ih =>
    obtain ⟨k, u⟩ := c
    have h := hm
    simp only [Memory.wfFrom, Bool.and_eq_true, decide_eq_true_eq] at h
    simp only [Memory.set]
    split
    · apply Memory.wfFrom_put hl ha
      simp only [Memory.wfFrom, Bool.and_eq_true, decide_eq_true_eq]
      exact ⟨⟨⟨by omega, h.1.1.2⟩, h.1.2⟩, h.2⟩
    · split
      · rename_i heq
        subst heq
        exact Memory.wfFrom_put hl ha v h.2
      · simp only [Memory.wfFrom, Bool.and_eq_true, decide_eq_true_eq]
        exact ⟨h.1, ih (by omega) h.2⟩

/-- A write inside the address space keeps the canonical form. -/
theorem Memory.wf_set {a : Nat} (ha : a < 2 ^ 24) (v : Byte) {m : Memory} (hm : m.wf = true) :
    (m.set a v).wf = true := Memory.wfFrom_set (Nat.zero_le a) ha v hm

/-- Reset memory has the canonical form. -/
theorem Memory.wf_nil : Memory.wf [] = true := rfl

end Sys2Proof.Machine
end

