-- ==== Sys2Proof/Laws/State.lean ====
section
/-! SUPPORT. One lemma per field per update of the state, its registers and its flags, all by rfl. -/

namespace Sys2Proof.Machine

/-! ### Updates of the state -/

@[simp] theorem State.onRegs_regs (f : Regs → Regs) (s : State) : (s.onRegs f).regs = f s.regs := rfl
@[simp] theorem State.onRegs_run (f : Regs → Regs) (s : State) : (s.onRegs f).run = s.run := rfl
@[simp] theorem State.onRegs_irqLine (f : Regs → Regs) (s : State) : (s.onRegs f).irqLine = s.irqLine := rfl
@[simp] theorem State.onRegs_nmiPending (f : Regs → Regs) (s : State) : (s.onRegs f).nmiPending = s.nmiPending := rfl
@[simp] theorem State.onRegs_resetLine (f : Regs → Regs) (s : State) : (s.onRegs f).resetLine = s.resetLine := rfl
@[simp] theorem State.onRegs_mem (f : Regs → Regs) (s : State) : (s.onRegs f).mem = s.mem := rfl
@[simp] theorem State.onRegs_params (f : Regs → Regs) (s : State) : (s.onRegs f).params = s.params := rfl
@[simp] theorem State.onRegs_inputs (f : Regs → Regs) (s : State) : (s.onRegs f).inputs = s.inputs := rfl
@[simp] theorem State.onRegs_draws (f : Regs → Regs) (s : State) : (s.onRegs f).draws = s.draws := rfl
@[simp] theorem State.onRegs_deviceLog (f : Regs → Regs) (s : State) : (s.onRegs f).deviceLog = s.deviceLog := rfl

@[simp] theorem State.countDraw_regs (s : State) : (s.countDraw).regs = s.regs := rfl
@[simp] theorem State.countDraw_run (s : State) : (s.countDraw).run = s.run := rfl
@[simp] theorem State.countDraw_irqLine (s : State) : (s.countDraw).irqLine = s.irqLine := rfl
@[simp] theorem State.countDraw_nmiPending (s : State) : (s.countDraw).nmiPending = s.nmiPending := rfl
@[simp] theorem State.countDraw_resetLine (s : State) : (s.countDraw).resetLine = s.resetLine := rfl
@[simp] theorem State.countDraw_mem (s : State) : (s.countDraw).mem = s.mem := rfl
@[simp] theorem State.countDraw_params (s : State) : (s.countDraw).params = s.params := rfl
@[simp] theorem State.countDraw_inputs (s : State) : (s.countDraw).inputs = s.inputs := rfl
@[simp] theorem State.countDraw_draws (s : State) : (s.countDraw).draws = s.draws + 1 := rfl
@[simp] theorem State.countDraw_deviceLog (s : State) : (s.countDraw).deviceLog = s.deviceLog := rfl

@[simp] theorem State.logDevice_regs (d : DeviceAccess) (s : State) : (s.logDevice d).regs = s.regs := rfl
@[simp] theorem State.logDevice_run (d : DeviceAccess) (s : State) : (s.logDevice d).run = s.run := rfl
@[simp] theorem State.logDevice_irqLine (d : DeviceAccess) (s : State) : (s.logDevice d).irqLine = s.irqLine := rfl
@[simp] theorem State.logDevice_nmiPending (d : DeviceAccess) (s : State) : (s.logDevice d).nmiPending = s.nmiPending := rfl
@[simp] theorem State.logDevice_resetLine (d : DeviceAccess) (s : State) : (s.logDevice d).resetLine = s.resetLine := rfl
@[simp] theorem State.logDevice_mem (d : DeviceAccess) (s : State) : (s.logDevice d).mem = s.mem := rfl
@[simp] theorem State.logDevice_params (d : DeviceAccess) (s : State) : (s.logDevice d).params = s.params := rfl
@[simp] theorem State.logDevice_inputs (d : DeviceAccess) (s : State) : (s.logDevice d).inputs = s.inputs := rfl
@[simp] theorem State.logDevice_draws (d : DeviceAccess) (s : State) : (s.logDevice d).draws = s.draws := rfl
@[simp] theorem State.logDevice_deviceLog (d : DeviceAccess) (s : State) : (s.logDevice d).deviceLog = d :: s.deviceLog := rfl

@[simp] theorem State.poke_regs (a : Addr) (v : Byte) (s : State) : (s.poke a v).regs = s.regs := rfl
@[simp] theorem State.poke_run (a : Addr) (v : Byte) (s : State) : (s.poke a v).run = s.run := rfl
@[simp] theorem State.poke_irqLine (a : Addr) (v : Byte) (s : State) : (s.poke a v).irqLine = s.irqLine := rfl
@[simp] theorem State.poke_nmiPending (a : Addr) (v : Byte) (s : State) : (s.poke a v).nmiPending = s.nmiPending := rfl
@[simp] theorem State.poke_resetLine (a : Addr) (v : Byte) (s : State) : (s.poke a v).resetLine = s.resetLine := rfl
@[simp] theorem State.poke_mem (a : Addr) (v : Byte) (s : State) : (s.poke a v).mem = s.mem.set a.toNat v := rfl
@[simp] theorem State.poke_params (a : Addr) (v : Byte) (s : State) : (s.poke a v).params = s.params := rfl
@[simp] theorem State.poke_inputs (a : Addr) (v : Byte) (s : State) : (s.poke a v).inputs = s.inputs := rfl
@[simp] theorem State.poke_draws (a : Addr) (v : Byte) (s : State) : (s.poke a v).draws = s.draws := rfl
@[simp] theorem State.poke_deviceLog (a : Addr) (v : Byte) (s : State) : (s.poke a v).deviceLog = s.deviceLog := rfl

/-! ### Updates of the registers -/

@[simp] theorem Regs.setAcc_c (v : Word) (r : Regs) : (r.setAcc v).c = withLow r.wA r.c v := rfl
@[simp] theorem Regs.setAcc_x (v : Word) (r : Regs) : (r.setAcc v).x = r.x := rfl
@[simp] theorem Regs.setAcc_y (v : Word) (r : Regs) : (r.setAcc v).y = r.y := rfl
@[simp] theorem Regs.setAcc_sp (v : Word) (r : Regs) : (r.setAcc v).sp = r.sp := rfl
@[simp] theorem Regs.setAcc_dr (v : Word) (r : Regs) : (r.setAcc v).dr = r.dr := rfl
@[simp] theorem Regs.setAcc_dbr (v : Word) (r : Regs) : (r.setAcc v).dbr = r.dbr := rfl
@[simp] theorem Regs.setAcc_pbr (v : Word) (r : Regs) : (r.setAcc v).pbr = r.pbr := rfl
@[simp] theorem Regs.setAcc_pc (v : Word) (r : Regs) : (r.setAcc v).pc = r.pc := rfl
@[simp] theorem Regs.setAcc_p (v : Word) (r : Regs) : (r.setAcc v).p = r.p := rfl
@[simp] theorem Regs.setAcc_e (v : Word) (r : Regs) : (r.setAcc v).e = r.e := rfl

@[simp] theorem Regs.setX_c (v : Word) (r : Regs) : (r.setX v).c = r.c := rfl
@[simp] theorem Regs.setX_x (v : Word) (r : Regs) : (r.setX v).x = r.wX.trunc v := rfl
@[simp] theorem Regs.setX_y (v : Word) (r : Regs) : (r.setX v).y = r.y := rfl
@[simp] theorem Regs.setX_sp (v : Word) (r : Regs) : (r.setX v).sp = r.sp := rfl
@[simp] theorem Regs.setX_dr (v : Word) (r : Regs) : (r.setX v).dr = r.dr := rfl
@[simp] theorem Regs.setX_dbr (v : Word) (r : Regs) : (r.setX v).dbr = r.dbr := rfl
@[simp] theorem Regs.setX_pbr (v : Word) (r : Regs) : (r.setX v).pbr = r.pbr := rfl
@[simp] theorem Regs.setX_pc (v : Word) (r : Regs) : (r.setX v).pc = r.pc := rfl
@[simp] theorem Regs.setX_p (v : Word) (r : Regs) : (r.setX v).p = r.p := rfl
@[simp] theorem Regs.setX_e (v : Word) (r : Regs) : (r.setX v).e = r.e := rfl

@[simp] theorem Regs.setY_c (v : Word) (r : Regs) : (r.setY v).c = r.c := rfl
@[simp] theorem Regs.setY_x (v : Word) (r : Regs) : (r.setY v).x = r.x := rfl
@[simp] theorem Regs.setY_y (v : Word) (r : Regs) : (r.setY v).y = r.wX.trunc v := rfl
@[simp] theorem Regs.setY_sp (v : Word) (r : Regs) : (r.setY v).sp = r.sp := rfl
@[simp] theorem Regs.setY_dr (v : Word) (r : Regs) : (r.setY v).dr = r.dr := rfl
@[simp] theorem Regs.setY_dbr (v : Word) (r : Regs) : (r.setY v).dbr = r.dbr := rfl
@[simp] theorem Regs.setY_pbr (v : Word) (r : Regs) : (r.setY v).pbr = r.pbr := rfl
@[simp] theorem Regs.setY_pc (v : Word) (r : Regs) : (r.setY v).pc = r.pc := rfl
@[simp] theorem Regs.setY_p (v : Word) (r : Regs) : (r.setY v).p = r.p := rfl
@[simp] theorem Regs.setY_e (v : Word) (r : Regs) : (r.setY v).e = r.e := rfl

@[simp] theorem Regs.setS_c (v : Word) (r : Regs) : (r.setS v).c = r.c := rfl
@[simp] theorem Regs.setS_x (v : Word) (r : Regs) : (r.setS v).x = r.x := rfl
@[simp] theorem Regs.setS_y (v : Word) (r : Regs) : (r.setS v).y = r.y := rfl
@[simp] theorem Regs.setS_sp (v : Word) (r : Regs) : (r.setS v).sp = if r.e then word (hi r.sp) (lo v) else v := rfl
@[simp] theorem Regs.setS_dr (v : Word) (r : Regs) : (r.setS v).dr = r.dr := rfl
@[simp] theorem Regs.setS_dbr (v : Word) (r : Regs) : (r.setS v).dbr = r.dbr := rfl
@[simp] theorem Regs.setS_pbr (v : Word) (r : Regs) : (r.setS v).pbr = r.pbr := rfl
@[simp] theorem Regs.setS_pc (v : Word) (r : Regs) : (r.setS v).pc = r.pc := rfl
@[simp] theorem Regs.setS_p (v : Word) (r : Regs) : (r.setS v).p = r.p := rfl
@[simp] theorem Regs.setS_e (v : Word) (r : Regs) : (r.setS v).e = r.e := rfl

@[simp] theorem Regs.setNZ_c (w : Width) (v : Word) (r : Regs) : (r.setNZ w v).c = r.c := rfl
@[simp] theorem Regs.setNZ_x (w : Width) (v : Word) (r : Regs) : (r.setNZ w v).x = r.x := rfl
@[simp] theorem Regs.setNZ_y (w : Width) (v : Word) (r : Regs) : (r.setNZ w v).y = r.y := rfl
@[simp] theorem Regs.setNZ_sp (w : Width) (v : Word) (r : Regs) : (r.setNZ w v).sp = r.sp := rfl
@[simp] theorem Regs.setNZ_dr (w : Width) (v : Word) (r : Regs) : (r.setNZ w v).dr = r.dr := rfl
@[simp] theorem Regs.setNZ_dbr (w : Width) (v : Word) (r : Regs) : (r.setNZ w v).dbr = r.dbr := rfl
@[simp] theorem Regs.setNZ_pbr (w : Width) (v : Word) (r : Regs) : (r.setNZ w v).pbr = r.pbr := rfl
@[simp] theorem Regs.setNZ_pc (w : Width) (v : Word) (r : Regs) : (r.setNZ w v).pc = r.pc := rfl
@[simp] theorem Regs.setNZ_p (w : Width) (v : Word) (r : Regs) : (r.setNZ w v).p = r.p.setNZ w v := rfl
@[simp] theorem Regs.setNZ_e (w : Width) (v : Word) (r : Regs) : (r.setNZ w v).e = r.e := rfl

@[simp] theorem Regs.advance_c (len : Nat) (r : Regs) : (r.advance len).c = r.c := rfl
@[simp] theorem Regs.advance_x (len : Nat) (r : Regs) : (r.advance len).x = r.x := rfl
@[simp] theorem Regs.advance_y (len : Nat) (r : Regs) : (r.advance len).y = r.y := rfl
@[simp] theorem Regs.advance_sp (len : Nat) (r : Regs) : (r.advance len).sp = r.sp := rfl
@[simp] theorem Regs.advance_dr (len : Nat) (r : Regs) : (r.advance len).dr = r.dr := rfl
@[simp] theorem Regs.advance_dbr (len : Nat) (r : Regs) : (r.advance len).dbr = r.dbr := rfl
@[simp] theorem Regs.advance_pbr (len : Nat) (r : Regs) : (r.advance len).pbr = r.pbr := rfl
@[simp] theorem Regs.advance_pc (len : Nat) (r : Regs) : (r.advance len).pc = r.pc + BitVec.ofNat 16 len := rfl
@[simp] theorem Regs.advance_p (len : Nat) (r : Regs) : (r.advance len).p = r.p := rfl
@[simp] theorem Regs.advance_e (len : Nat) (r : Regs) : (r.advance len).e = r.e := rfl

@[simp] theorem Regs.jump_c (v : Word) (r : Regs) : (r.jump v).c = r.c := rfl
@[simp] theorem Regs.jump_x (v : Word) (r : Regs) : (r.jump v).x = r.x := rfl
@[simp] theorem Regs.jump_y (v : Word) (r : Regs) : (r.jump v).y = r.y := rfl
@[simp] theorem Regs.jump_sp (v : Word) (r : Regs) : (r.jump v).sp = r.sp := rfl
@[simp] theorem Regs.jump_dr (v : Word) (r : Regs) : (r.jump v).dr = r.dr := rfl
@[simp] theorem Regs.jump_dbr (v : Word) (r : Regs) : (r.jump v).dbr = r.dbr := rfl
@[simp] theorem Regs.jump_pbr (v : Word) (r : Regs) : (r.jump v).pbr = r.pbr := rfl
@[simp] theorem Regs.jump_pc (v : Word) (r : Regs) : (r.jump v).pc = v := rfl
@[simp] theorem Regs.jump_p (v : Word) (r : Regs) : (r.jump v).p = r.p := rfl
@[simp] theorem Regs.jump_e (v : Word) (r : Regs) : (r.jump v).e = r.e := rfl

@[simp] theorem Regs.enterHandler_c (r : Regs) : (r.enterHandler).c = r.c := rfl
@[simp] theorem Regs.enterHandler_x (r : Regs) : (r.enterHandler).x = r.x := rfl
@[simp] theorem Regs.enterHandler_y (r : Regs) : (r.enterHandler).y = r.y := rfl
@[simp] theorem Regs.enterHandler_sp (r : Regs) : (r.enterHandler).sp = r.sp := rfl
@[simp] theorem Regs.enterHandler_dr (r : Regs) : (r.enterHandler).dr = r.dr := rfl
@[simp] theorem Regs.enterHandler_dbr (r : Regs) : (r.enterHandler).dbr = r.dbr := rfl
@[simp] theorem Regs.enterHandler_pbr (r : Regs) : (r.enterHandler).pbr = 0x00#8 := rfl
@[simp] theorem Regs.enterHandler_pc (r : Regs) : (r.enterHandler).pc = r.pc := rfl
@[simp] theorem Regs.enterHandler_p (r : Regs) : (r.enterHandler).p = { r.p with i := true, d := false } := rfl
@[simp] theorem Regs.enterHandler_e (r : Regs) : (r.enterHandler).e = r.e := rfl

@[simp] theorem Regs.decS_c (r : Regs) : (r.decS).c = r.c := rfl
@[simp] theorem Regs.decS_x (r : Regs) : (r.decS).x = r.x := rfl
@[simp] theorem Regs.decS_y (r : Regs) : (r.decS).y = r.y := rfl
@[simp] theorem Regs.decS_dr (r : Regs) : (r.decS).dr = r.dr := rfl
@[simp] theorem Regs.decS_dbr (r : Regs) : (r.decS).dbr = r.dbr := rfl
@[simp] theorem Regs.decS_pbr (r : Regs) : (r.decS).pbr = r.pbr := rfl
@[simp] theorem Regs.decS_pc (r : Regs) : (r.decS).pc = r.pc := rfl
@[simp] theorem Regs.decS_p (r : Regs) : (r.decS).p = r.p := rfl
@[simp] theorem Regs.decS_e (r : Regs) : (r.decS).e = r.e := rfl

@[simp] theorem Regs.incS_c (r : Regs) : (r.incS).c = r.c := rfl
@[simp] theorem Regs.incS_x (r : Regs) : (r.incS).x = r.x := rfl
@[simp] theorem Regs.incS_y (r : Regs) : (r.incS).y = r.y := rfl
@[simp] theorem Regs.incS_dr (r : Regs) : (r.incS).dr = r.dr := rfl
@[simp] theorem Regs.incS_dbr (r : Regs) : (r.incS).dbr = r.dbr := rfl
@[simp] theorem Regs.incS_pbr (r : Regs) : (r.incS).pbr = r.pbr := rfl
@[simp] theorem Regs.incS_pc (r : Regs) : (r.incS).pc = r.pc := rfl
@[simp] theorem Regs.incS_p (r : Regs) : (r.incS).p = r.p := rfl
@[simp] theorem Regs.incS_e (r : Regs) : (r.incS).e = r.e := rfl

@[simp] theorem Regs.setSum_c (w : Width) (q : Sum) (r : Regs) : (r.setSum w q).c = withLow r.wA r.c q.value := rfl
@[simp] theorem Regs.setSum_x (w : Width) (q : Sum) (r : Regs) : (r.setSum w q).x = r.x := rfl
@[simp] theorem Regs.setSum_y (w : Width) (q : Sum) (r : Regs) : (r.setSum w q).y = r.y := rfl
@[simp] theorem Regs.setSum_sp (w : Width) (q : Sum) (r : Regs) : (r.setSum w q).sp = r.sp := rfl
@[simp] theorem Regs.setSum_dr (w : Width) (q : Sum) (r : Regs) : (r.setSum w q).dr = r.dr := rfl
@[simp] theorem Regs.setSum_dbr (w : Width) (q : Sum) (r : Regs) : (r.setSum w q).dbr = r.dbr := rfl
@[simp] theorem Regs.setSum_pbr (w : Width) (q : Sum) (r : Regs) : (r.setSum w q).pbr = r.pbr := rfl
@[simp] theorem Regs.setSum_pc (w : Width) (q : Sum) (r : Regs) : (r.setSum w q).pc = r.pc := rfl
@[simp] theorem Regs.setSum_p (w : Width) (q : Sum) (r : Regs) : (r.setSum w q).p = { r.p.setNZ w q.value with v := q.overflow, c := q.carry } := rfl
@[simp] theorem Regs.setSum_e (w : Width) (q : Sum) (r : Regs) : (r.setSum w q).e = r.e := rfl

@[simp] theorem Regs.resultAcc_c (v : Word) (r : Regs) : (r.resultAcc v).c = withLow r.wA r.c v := rfl
@[simp] theorem Regs.resultAcc_x (v : Word) (r : Regs) : (r.resultAcc v).x = r.x := rfl
@[simp] theorem Regs.resultAcc_y (v : Word) (r : Regs) : (r.resultAcc v).y = r.y := rfl
@[simp] theorem Regs.resultAcc_sp (v : Word) (r : Regs) : (r.resultAcc v).sp = r.sp := rfl
@[simp] theorem Regs.resultAcc_dr (v : Word) (r : Regs) : (r.resultAcc v).dr = r.dr := rfl
@[simp] theorem Regs.resultAcc_dbr (v : Word) (r : Regs) : (r.resultAcc v).dbr = r.dbr := rfl
@[simp] theorem Regs.resultAcc_pbr (v : Word) (r : Regs) : (r.resultAcc v).pbr = r.pbr := rfl
@[simp] theorem Regs.resultAcc_pc (v : Word) (r : Regs) : (r.resultAcc v).pc = r.pc := rfl
@[simp] theorem Regs.resultAcc_p (v : Word) (r : Regs) : (r.resultAcc v).p = r.p.setNZ r.wA v := rfl
@[simp] theorem Regs.resultAcc_e (v : Word) (r : Regs) : (r.resultAcc v).e = r.e := rfl

@[simp] theorem Regs.setNZC_c (w : Width) (q : Word × Bool) (r : Regs) : (r.setNZC w q).c = r.c := rfl
@[simp] theorem Regs.setNZC_x (w : Width) (q : Word × Bool) (r : Regs) : (r.setNZC w q).x = r.x := rfl
@[simp] theorem Regs.setNZC_y (w : Width) (q : Word × Bool) (r : Regs) : (r.setNZC w q).y = r.y := rfl
@[simp] theorem Regs.setNZC_sp (w : Width) (q : Word × Bool) (r : Regs) : (r.setNZC w q).sp = r.sp := rfl
@[simp] theorem Regs.setNZC_dr (w : Width) (q : Word × Bool) (r : Regs) : (r.setNZC w q).dr = r.dr := rfl
@[simp] theorem Regs.setNZC_dbr (w : Width) (q : Word × Bool) (r : Regs) : (r.setNZC w q).dbr = r.dbr := rfl
@[simp] theorem Regs.setNZC_pbr (w : Width) (q : Word × Bool) (r : Regs) : (r.setNZC w q).pbr = r.pbr := rfl
@[simp] theorem Regs.setNZC_pc (w : Width) (q : Word × Bool) (r : Regs) : (r.setNZC w q).pc = r.pc := rfl
@[simp] theorem Regs.setNZC_p (w : Width) (q : Word × Bool) (r : Regs) : (r.setNZC w q).p = { r.p.setNZ w q.1 with c := q.2 } := rfl
@[simp] theorem Regs.setNZC_e (w : Width) (q : Word × Bool) (r : Regs) : (r.setNZC w q).e = r.e := rfl

@[simp] theorem Regs.setTestZ_c (m : Word) (r : Regs) : (r.setTestZ m).c = r.c := rfl
@[simp] theorem Regs.setTestZ_x (m : Word) (r : Regs) : (r.setTestZ m).x = r.x := rfl
@[simp] theorem Regs.setTestZ_y (m : Word) (r : Regs) : (r.setTestZ m).y = r.y := rfl
@[simp] theorem Regs.setTestZ_sp (m : Word) (r : Regs) : (r.setTestZ m).sp = r.sp := rfl
@[simp] theorem Regs.setTestZ_dr (m : Word) (r : Regs) : (r.setTestZ m).dr = r.dr := rfl
@[simp] theorem Regs.setTestZ_dbr (m : Word) (r : Regs) : (r.setTestZ m).dbr = r.dbr := rfl
@[simp] theorem Regs.setTestZ_pbr (m : Word) (r : Regs) : (r.setTestZ m).pbr = r.pbr := rfl
@[simp] theorem Regs.setTestZ_pc (m : Word) (r : Regs) : (r.setTestZ m).pc = r.pc := rfl
@[simp] theorem Regs.setTestZ_p (m : Word) (r : Regs) : (r.setTestZ m).p = { r.p with z := decide (r.acc &&& m = 0x0000#16) } := rfl
@[simp] theorem Regs.setTestZ_e (m : Word) (r : Regs) : (r.setTestZ m).e = r.e := rfl

@[simp] theorem Regs.resultX_c (v : Word) (r : Regs) : (r.resultX v).c = r.c := rfl
@[simp] theorem Regs.resultX_x (v : Word) (r : Regs) : (r.resultX v).x = r.wX.trunc v := rfl
@[simp] theorem Regs.resultX_y (v : Word) (r : Regs) : (r.resultX v).y = r.y := rfl
@[simp] theorem Regs.resultX_sp (v : Word) (r : Regs) : (r.resultX v).sp = r.sp := rfl
@[simp] theorem Regs.resultX_dr (v : Word) (r : Regs) : (r.resultX v).dr = r.dr := rfl
@[simp] theorem Regs.resultX_dbr (v : Word) (r : Regs) : (r.resultX v).dbr = r.dbr := rfl
@[simp] theorem Regs.resultX_pbr (v : Word) (r : Regs) : (r.resultX v).pbr = r.pbr := rfl
@[simp] theorem Regs.resultX_pc (v : Word) (r : Regs) : (r.resultX v).pc = r.pc := rfl
@[simp] theorem Regs.resultX_p (v : Word) (r : Regs) : (r.resultX v).p = r.p.setNZ r.wX v := rfl
@[simp] theorem Regs.resultX_e (v : Word) (r : Regs) : (r.resultX v).e = r.e := rfl

@[simp] theorem Regs.resultY_c (v : Word) (r : Regs) : (r.resultY v).c = r.c := rfl
@[simp] theorem Regs.resultY_x (v : Word) (r : Regs) : (r.resultY v).x = r.x := rfl
@[simp] theorem Regs.resultY_y (v : Word) (r : Regs) : (r.resultY v).y = r.wX.trunc v := rfl
@[simp] theorem Regs.resultY_sp (v : Word) (r : Regs) : (r.resultY v).sp = r.sp := rfl
@[simp] theorem Regs.resultY_dr (v : Word) (r : Regs) : (r.resultY v).dr = r.dr := rfl
@[simp] theorem Regs.resultY_dbr (v : Word) (r : Regs) : (r.resultY v).dbr = r.dbr := rfl
@[simp] theorem Regs.resultY_pbr (v : Word) (r : Regs) : (r.resultY v).pbr = r.pbr := rfl
@[simp] theorem Regs.resultY_pc (v : Word) (r : Regs) : (r.resultY v).pc = r.pc := rfl
@[simp] theorem Regs.resultY_p (v : Word) (r : Regs) : (r.resultY v).p = r.p.setNZ r.wX v := rfl
@[simp] theorem Regs.resultY_e (v : Word) (r : Regs) : (r.resultY v).e = r.e := rfl

@[simp] theorem Regs.onFlags_c (f : Status → Status) (r : Regs) : (r.onFlags f).c = r.c := rfl
@[simp] theorem Regs.onFlags_x (f : Status → Status) (r : Regs) : (r.onFlags f).x = r.x := rfl
@[simp] theorem Regs.onFlags_y (f : Status → Status) (r : Regs) : (r.onFlags f).y = r.y := rfl
@[simp] theorem Regs.onFlags_sp (f : Status → Status) (r : Regs) : (r.onFlags f).sp = r.sp := rfl
@[simp] theorem Regs.onFlags_dr (f : Status → Status) (r : Regs) : (r.onFlags f).dr = r.dr := rfl
@[simp] theorem Regs.onFlags_dbr (f : Status → Status) (r : Regs) : (r.onFlags f).dbr = r.dbr := rfl
@[simp] theorem Regs.onFlags_pbr (f : Status → Status) (r : Regs) : (r.onFlags f).pbr = r.pbr := rfl
@[simp] theorem Regs.onFlags_pc (f : Status → Status) (r : Regs) : (r.onFlags f).pc = r.pc := rfl
@[simp] theorem Regs.onFlags_p (f : Status → Status) (r : Regs) : (r.onFlags f).p = f r.p := rfl
@[simp] theorem Regs.onFlags_e (f : Status → Status) (r : Regs) : (r.onFlags f).e = r.e := rfl

@[simp] theorem Regs.exchangeBA_c (r : Regs) : (r.exchangeBA).c = word (lo r.c) (hi r.c) := rfl
@[simp] theorem Regs.exchangeBA_x (r : Regs) : (r.exchangeBA).x = r.x := rfl
@[simp] theorem Regs.exchangeBA_y (r : Regs) : (r.exchangeBA).y = r.y := rfl
@[simp] theorem Regs.exchangeBA_sp (r : Regs) : (r.exchangeBA).sp = r.sp := rfl
@[simp] theorem Regs.exchangeBA_dr (r : Regs) : (r.exchangeBA).dr = r.dr := rfl
@[simp] theorem Regs.exchangeBA_dbr (r : Regs) : (r.exchangeBA).dbr = r.dbr := rfl
@[simp] theorem Regs.exchangeBA_pbr (r : Regs) : (r.exchangeBA).pbr = r.pbr := rfl
@[simp] theorem Regs.exchangeBA_pc (r : Regs) : (r.exchangeBA).pc = r.pc := rfl
@[simp] theorem Regs.exchangeBA_p (r : Regs) : (r.exchangeBA).p = r.p.setNZ .w8 (zext (hi r.c)) := rfl
@[simp] theorem Regs.exchangeBA_e (r : Regs) : (r.exchangeBA).e = r.e := rfl

/-- `DecS` of S: SL alone in emulation mode (R33). -/
@[simp] theorem Regs.decS_sp (r : Regs) :
    r.decS.sp = if r.e then word (hi r.sp) (lo r.sp - 1) else r.sp - 1 := by
  cases h : r.e <;> simp [Regs.decS, h]

/-- `IncS` of S: SL alone in emulation mode (R33). -/
@[simp] theorem Regs.incS_sp (r : Regs) :
    r.incS.sp = if r.e then word (hi r.sp) (lo r.sp + 1) else r.sp + 1 := by
  cases h : r.e <;> simp [Regs.incS, h]

@[simp] theorem Regs.narrowIndex_c (r : Regs) : r.narrowIndex.c = r.c := by
  unfold Regs.narrowIndex; split <;> rfl
@[simp] theorem Regs.narrowIndex_x (r : Regs) : r.narrowIndex.x = if r.p.x then word 0x00#8 (lo r.x) else r.x := by
  unfold Regs.narrowIndex; split <;> rfl
@[simp] theorem Regs.narrowIndex_y (r : Regs) : r.narrowIndex.y = if r.p.x then word 0x00#8 (lo r.y) else r.y := by
  unfold Regs.narrowIndex; split <;> rfl
@[simp] theorem Regs.narrowIndex_sp (r : Regs) : r.narrowIndex.sp = r.sp := by
  unfold Regs.narrowIndex; split <;> rfl
@[simp] theorem Regs.narrowIndex_dr (r : Regs) : r.narrowIndex.dr = r.dr := by
  unfold Regs.narrowIndex; split <;> rfl
@[simp] theorem Regs.narrowIndex_dbr (r : Regs) : r.narrowIndex.dbr = r.dbr := by
  unfold Regs.narrowIndex; split <;> rfl
@[simp] theorem Regs.narrowIndex_pbr (r : Regs) : r.narrowIndex.pbr = r.pbr := by
  unfold Regs.narrowIndex; split <;> rfl
@[simp] theorem Regs.narrowIndex_pc (r : Regs) : r.narrowIndex.pc = r.pc := by
  unfold Regs.narrowIndex; split <;> rfl
@[simp] theorem Regs.narrowIndex_p (r : Regs) : r.narrowIndex.p = r.p := by
  unfold Regs.narrowIndex; split <;> rfl
@[simp] theorem Regs.narrowIndex_e (r : Regs) : r.narrowIndex.e = r.e := by
  unfold Regs.narrowIndex; split <;> rfl

@[simp] theorem Regs.unpackP_c (v : Byte) (r : Regs) : (r.unpackP v).c = r.c := by
  cases h : r.e <;> simp [Regs.unpackP, h]
@[simp] theorem Regs.unpackP_x (v : Byte) (r : Regs) :
    (r.unpackP v).x = if !r.e && v.getLsbD 4 then word 0x00#8 (lo r.x) else r.x := by
  cases h : r.e <;> simp [Regs.unpackP, Status.unpack, h]
@[simp] theorem Regs.unpackP_y (v : Byte) (r : Regs) :
    (r.unpackP v).y = if !r.e && v.getLsbD 4 then word 0x00#8 (lo r.y) else r.y := by
  cases h : r.e <;> simp [Regs.unpackP, Status.unpack, h]
@[simp] theorem Regs.unpackP_sp (v : Byte) (r : Regs) : (r.unpackP v).sp = r.sp := by
  cases h : r.e <;> simp [Regs.unpackP, h]
@[simp] theorem Regs.unpackP_dr (v : Byte) (r : Regs) : (r.unpackP v).dr = r.dr := by
  cases h : r.e <;> simp [Regs.unpackP, h]
@[simp] theorem Regs.unpackP_dbr (v : Byte) (r : Regs) : (r.unpackP v).dbr = r.dbr := by
  cases h : r.e <;> simp [Regs.unpackP, h]
@[simp] theorem Regs.unpackP_pbr (v : Byte) (r : Regs) : (r.unpackP v).pbr = r.pbr := by
  cases h : r.e <;> simp [Regs.unpackP, h]
@[simp] theorem Regs.unpackP_pc (v : Byte) (r : Regs) : (r.unpackP v).pc = r.pc := by
  cases h : r.e <;> simp [Regs.unpackP, h]
@[simp] theorem Regs.unpackP_p (v : Byte) (r : Regs) : (r.unpackP v).p = r.p.unpack r.e v := by
  cases h : r.e <;> simp [Regs.unpackP, h]
@[simp] theorem Regs.unpackP_e (v : Byte) (r : Regs) : (r.unpackP v).e = r.e := by
  cases h : r.e <;> simp [Regs.unpackP, h]

@[simp] theorem Regs.enforceEmulation_c (r : Regs) : r.enforceEmulation.c = r.c := by
  cases h : r.e <;> simp [Regs.enforceEmulation, h]
@[simp] theorem Regs.enforceEmulation_x (r : Regs) : r.enforceEmulation.x = if r.e then word 0x00#8 (lo r.x) else r.x := by
  cases h : r.e <;> simp [Regs.enforceEmulation, h]
@[simp] theorem Regs.enforceEmulation_y (r : Regs) : r.enforceEmulation.y = if r.e then word 0x00#8 (lo r.y) else r.y := by
  cases h : r.e <;> simp [Regs.enforceEmulation, h]
@[simp] theorem Regs.enforceEmulation_sp (r : Regs) : r.enforceEmulation.sp = if r.e then word 0x01#8 (lo r.sp) else r.sp := by
  cases h : r.e <;> simp [Regs.enforceEmulation, h]
@[simp] theorem Regs.enforceEmulation_dr (r : Regs) : r.enforceEmulation.dr = r.dr := by
  cases h : r.e <;> simp [Regs.enforceEmulation, h]
@[simp] theorem Regs.enforceEmulation_dbr (r : Regs) : r.enforceEmulation.dbr = r.dbr := by
  cases h : r.e <;> simp [Regs.enforceEmulation, h]
@[simp] theorem Regs.enforceEmulation_pbr (r : Regs) : r.enforceEmulation.pbr = r.pbr := by
  cases h : r.e <;> simp [Regs.enforceEmulation, h]
@[simp] theorem Regs.enforceEmulation_pc (r : Regs) : r.enforceEmulation.pc = r.pc := by
  cases h : r.e <;> simp [Regs.enforceEmulation, h]
@[simp] theorem Regs.enforceEmulation_p (r : Regs) : r.enforceEmulation.p = if r.e then { r.p with m := true, x := true } else r.p := by
  cases h : r.e <;> simp [Regs.enforceEmulation, h]
@[simp] theorem Regs.enforceEmulation_e (r : Regs) : r.enforceEmulation.e = r.e := by
  cases h : r.e <;> simp [Regs.enforceEmulation, h]

@[simp] theorem Regs.exchangeCE_c (r : Regs) : r.exchangeCE.c = r.c := by
  simp [Regs.exchangeCE]
@[simp] theorem Regs.exchangeCE_x (r : Regs) : r.exchangeCE.x = if r.p.c then word 0x00#8 (lo r.x) else r.x := by
  simp [Regs.exchangeCE]
@[simp] theorem Regs.exchangeCE_y (r : Regs) : r.exchangeCE.y = if r.p.c then word 0x00#8 (lo r.y) else r.y := by
  simp [Regs.exchangeCE]
@[simp] theorem Regs.exchangeCE_sp (r : Regs) : r.exchangeCE.sp = if r.p.c then word 0x01#8 (lo r.sp) else r.sp := by
  simp [Regs.exchangeCE]
@[simp] theorem Regs.exchangeCE_dr (r : Regs) : r.exchangeCE.dr = r.dr := by
  simp [Regs.exchangeCE]
@[simp] theorem Regs.exchangeCE_dbr (r : Regs) : r.exchangeCE.dbr = r.dbr := by
  simp [Regs.exchangeCE]
@[simp] theorem Regs.exchangeCE_pbr (r : Regs) : r.exchangeCE.pbr = r.pbr := by
  simp [Regs.exchangeCE]
@[simp] theorem Regs.exchangeCE_pc (r : Regs) : r.exchangeCE.pc = r.pc := by
  simp [Regs.exchangeCE]
@[simp] theorem Regs.exchangeCE_p (r : Regs) : r.exchangeCE.p = if r.p.c then { r.p with c := r.e, m := true, x := true } else { r.p with c := r.e } := by
  simp [Regs.exchangeCE]
@[simp] theorem Regs.exchangeCE_e (r : Regs) : r.exchangeCE.e = r.p.c := by
  simp [Regs.exchangeCE]

/-- The widths depend on M and X alone (R22, R23). -/
theorem Regs.wA_eq (r : Regs) : r.wA = Width.ofFlag r.p.m := rfl

theorem Regs.wX_eq (r : Regs) : r.wX = Width.ofFlag r.p.x := rfl

/-! ### Updates of the flags -/

@[simp] theorem Status.setNZ_n (w : Width) (v : Word) (p : Status) : (p.setNZ w v).n = w.msb v := rfl
@[simp] theorem Status.setNZ_v (w : Width) (v : Word) (p : Status) : (p.setNZ w v).v = p.v := rfl
@[simp] theorem Status.setNZ_m (w : Width) (v : Word) (p : Status) : (p.setNZ w v).m = p.m := rfl
@[simp] theorem Status.setNZ_x (w : Width) (v : Word) (p : Status) : (p.setNZ w v).x = p.x := rfl
@[simp] theorem Status.setNZ_d (w : Width) (v : Word) (p : Status) : (p.setNZ w v).d = p.d := rfl
@[simp] theorem Status.setNZ_i (w : Width) (v : Word) (p : Status) : (p.setNZ w v).i = p.i := rfl
@[simp] theorem Status.setNZ_z (w : Width) (v : Word) (p : Status) : (p.setNZ w v).z = decide (w.trunc v = 0x0000#16) := rfl
@[simp] theorem Status.setNZ_c (w : Width) (v : Word) (p : Status) : (p.setNZ w v).c = p.c := rfl

@[simp] theorem Status.compare_n (w : Width) (a m : Word) (p : Status) : (p.compare w a m).n = w.msb (subMod w a m) := rfl
@[simp] theorem Status.compare_v (w : Width) (a m : Word) (p : Status) : (p.compare w a m).v = p.v := rfl
@[simp] theorem Status.compare_m (w : Width) (a m : Word) (p : Status) : (p.compare w a m).m = p.m := rfl
@[simp] theorem Status.compare_x (w : Width) (a m : Word) (p : Status) : (p.compare w a m).x = p.x := rfl
@[simp] theorem Status.compare_d (w : Width) (a m : Word) (p : Status) : (p.compare w a m).d = p.d := rfl
@[simp] theorem Status.compare_i (w : Width) (a m : Word) (p : Status) : (p.compare w a m).i = p.i := rfl
@[simp] theorem Status.compare_z (w : Width) (a m : Word) (p : Status) : (p.compare w a m).z = decide (w.trunc (subMod w a m) = 0x0000#16) := rfl
@[simp] theorem Status.compare_c (w : Width) (a m : Word) (p : Status) : (p.compare w a m).c = decide (m.toNat ≤ a.toNat) := rfl

@[simp] theorem Status.unpack_n (e : Bool) (v : Byte) (p : Status) : (p.unpack e v).n = v.getLsbD 7 := rfl
@[simp] theorem Status.unpack_v (e : Bool) (v : Byte) (p : Status) : (p.unpack e v).v = v.getLsbD 6 := rfl
@[simp] theorem Status.unpack_m (e : Bool) (v : Byte) (p : Status) : (p.unpack e v).m = if e then p.m else v.getLsbD 5 := rfl
@[simp] theorem Status.unpack_x (e : Bool) (v : Byte) (p : Status) : (p.unpack e v).x = if e then p.x else v.getLsbD 4 := rfl
@[simp] theorem Status.unpack_d (e : Bool) (v : Byte) (p : Status) : (p.unpack e v).d = v.getLsbD 3 := rfl
@[simp] theorem Status.unpack_i (e : Bool) (v : Byte) (p : Status) : (p.unpack e v).i = v.getLsbD 2 := rfl
@[simp] theorem Status.unpack_z (e : Bool) (v : Byte) (p : Status) : (p.unpack e v).z = v.getLsbD 1 := rfl
@[simp] theorem Status.unpack_c (e : Bool) (v : Byte) (p : Status) : (p.unpack e v).c = v.getLsbD 0 := rfl

/-- The bits of a byte written bit by bit. -/
theorem bits_of_eight : ∀ b7 b6 b5 b4 b3 b2 b1 b0 : Bool,
    let v : Byte := BitVec.ofBool b7 ++ BitVec.ofBool b6 ++ BitVec.ofBool b5 ++ BitVec.ofBool b4 ++ BitVec.ofBool b3 ++
      BitVec.ofBool b2 ++ BitVec.ofBool b1 ++ BitVec.ofBool b0
    v[7] = b7 ∧ v[6] = b6 ∧ v[5] = b5 ∧ v[4] = b4 ∧ v[3] = b3 ∧ v[2] = b2 ∧ v[1] = b1 ∧ v[0] = b0 := by decide

theorem Status.pack_bits (e b : Bool) (p : Status) :
    (p.pack e b)[7] = p.n ∧ (p.pack e b)[6] = p.v ∧ (p.pack e b)[5] = (e || p.m) ∧
      (p.pack e b)[4] = (if e then b else p.x) ∧ (p.pack e b)[3] = p.d ∧ (p.pack e b)[2] = p.i ∧
      (p.pack e b)[1] = p.z ∧ (p.pack e b)[0] = p.c :=
  bits_of_eight p.n p.v (e || p.m) (if e then b else p.x) p.d p.i p.z p.c

@[simp] theorem Status.pack_bit_n (e b : Bool) (p : Status) : (p.pack e b)[7] = p.n :=
  (p.pack_bits e b).1
@[simp] theorem Status.pack_bit_v (e b : Bool) (p : Status) : (p.pack e b)[6] = p.v :=
  (p.pack_bits e b).2.1
@[simp] theorem Status.pack_bit_m (e b : Bool) (p : Status) : (p.pack e b)[5] = (e || p.m) :=
  (p.pack_bits e b).2.2.1
@[simp] theorem Status.pack_bit_x (e b : Bool) (p : Status) : (p.pack e b)[4] = (if e then b else p.x) :=
  (p.pack_bits e b).2.2.2.1
@[simp] theorem Status.pack_bit_d (e b : Bool) (p : Status) : (p.pack e b)[3] = p.d :=
  (p.pack_bits e b).2.2.2.2.1
@[simp] theorem Status.pack_bit_i (e b : Bool) (p : Status) : (p.pack e b)[2] = p.i :=
  (p.pack_bits e b).2.2.2.2.2.1
@[simp] theorem Status.pack_bit_z (e b : Bool) (p : Status) : (p.pack e b)[1] = p.z :=
  (p.pack_bits e b).2.2.2.2.2.2.1
@[simp] theorem Status.pack_bit_c (e b : Bool) (p : Status) : (p.pack e b)[0] = p.c :=
  (p.pack_bits e b).2.2.2.2.2.2.2

/-- The image of P in native mode unpacks to the same flags (R34). -/
theorem Status.unpack_pack_native (b : Bool) (p q : Status) : q.unpack false (p.pack false b) = p := by
  simp [Status.unpack]

/-- In emulation mode it unpacks to the same flags, M and X kept (R34). -/
theorem Status.unpack_pack_emulation (b : Bool) (p q : Status) :
    q.unpack true (p.pack true b) = { p with m := q.m, x := q.x } := by
  simp [Status.unpack]

end Sys2Proof.Machine
end

