-- ==== Sys2Proof/Laws/Ops.lean ====
section
/-! SUPPORT. What each shared operation can do, said once: which fields of the state it changes and to what. -/

namespace Sys2Proof.Machine

/-! ### Reads: only the counter of draws and the device log can change -/

@[simp] theorem readByte_regs (a : Addr) (s : State) : ((readByte a s).2).regs = s.regs := by
  unfold readByte; split <;> rfl
@[simp] theorem readByte_run (a : Addr) (s : State) : ((readByte a s).2).run = s.run := by
  unfold readByte; split <;> rfl
@[simp] theorem readByte_irqLine (a : Addr) (s : State) : ((readByte a s).2).irqLine = s.irqLine := by
  unfold readByte; split <;> rfl
@[simp] theorem readByte_nmiPending (a : Addr) (s : State) : ((readByte a s).2).nmiPending = s.nmiPending := by
  unfold readByte; split <;> rfl
@[simp] theorem readByte_resetLine (a : Addr) (s : State) : ((readByte a s).2).resetLine = s.resetLine := by
  unfold readByte; split <;> rfl
@[simp] theorem readByte_mem (a : Addr) (s : State) : ((readByte a s).2).mem = s.mem := by
  unfold readByte; split <;> rfl
@[simp] theorem readByte_params (a : Addr) (s : State) : ((readByte a s).2).params = s.params := by
  unfold readByte; split <;> rfl
@[simp] theorem readByte_inputs (a : Addr) (s : State) : ((readByte a s).2).inputs = s.inputs := by
  unfold readByte; split <;> rfl

@[simp] theorem read16_regs (ea : EA) (s : State) : ((read16 ea s).2).regs = s.regs := by
  simp [read16]
@[simp] theorem read16_run (ea : EA) (s : State) : ((read16 ea s).2).run = s.run := by
  simp [read16]
@[simp] theorem read16_irqLine (ea : EA) (s : State) : ((read16 ea s).2).irqLine = s.irqLine := by
  simp [read16]
@[simp] theorem read16_nmiPending (ea : EA) (s : State) : ((read16 ea s).2).nmiPending = s.nmiPending := by
  simp [read16]
@[simp] theorem read16_resetLine (ea : EA) (s : State) : ((read16 ea s).2).resetLine = s.resetLine := by
  simp [read16]
@[simp] theorem read16_mem (ea : EA) (s : State) : ((read16 ea s).2).mem = s.mem := by
  simp [read16]
@[simp] theorem read16_params (ea : EA) (s : State) : ((read16 ea s).2).params = s.params := by
  simp [read16]
@[simp] theorem read16_inputs (ea : EA) (s : State) : ((read16 ea s).2).inputs = s.inputs := by
  simp [read16]

@[simp] theorem read24_regs (ea : EA) (s : State) : ((read24 ea s).2).regs = s.regs := by
  simp [read24]
@[simp] theorem read24_run (ea : EA) (s : State) : ((read24 ea s).2).run = s.run := by
  simp [read24]
@[simp] theorem read24_irqLine (ea : EA) (s : State) : ((read24 ea s).2).irqLine = s.irqLine := by
  simp [read24]
@[simp] theorem read24_nmiPending (ea : EA) (s : State) : ((read24 ea s).2).nmiPending = s.nmiPending := by
  simp [read24]
@[simp] theorem read24_resetLine (ea : EA) (s : State) : ((read24 ea s).2).resetLine = s.resetLine := by
  simp [read24]
@[simp] theorem read24_mem (ea : EA) (s : State) : ((read24 ea s).2).mem = s.mem := by
  simp [read24]
@[simp] theorem read24_params (ea : EA) (s : State) : ((read24 ea s).2).params = s.params := by
  simp [read24]
@[simp] theorem read24_inputs (ea : EA) (s : State) : ((read24 ea s).2).inputs = s.inputs := by
  simp [read24]

@[simp] theorem loadEA_regs (ea : EA) (w : Width) (s : State) : ((loadEA ea w s).2).regs = s.regs := by
  cases w <;> simp [loadEA]
@[simp] theorem loadEA_run (ea : EA) (w : Width) (s : State) : ((loadEA ea w s).2).run = s.run := by
  cases w <;> simp [loadEA]
@[simp] theorem loadEA_irqLine (ea : EA) (w : Width) (s : State) : ((loadEA ea w s).2).irqLine = s.irqLine := by
  cases w <;> simp [loadEA]
@[simp] theorem loadEA_nmiPending (ea : EA) (w : Width) (s : State) : ((loadEA ea w s).2).nmiPending = s.nmiPending := by
  cases w <;> simp [loadEA]
@[simp] theorem loadEA_resetLine (ea : EA) (w : Width) (s : State) : ((loadEA ea w s).2).resetLine = s.resetLine := by
  cases w <;> simp [loadEA]
@[simp] theorem loadEA_mem (ea : EA) (w : Width) (s : State) : ((loadEA ea w s).2).mem = s.mem := by
  cases w <;> simp [loadEA]
@[simp] theorem loadEA_params (ea : EA) (w : Width) (s : State) : ((loadEA ea w s).2).params = s.params := by
  cases w <;> simp [loadEA]
@[simp] theorem loadEA_inputs (ea : EA) (w : Width) (s : State) : ((loadEA ea w s).2).inputs = s.inputs := by
  cases w <;> simp [loadEA]

@[simp] theorem effAddr_regs (md : MemMode) (s : State) : ((effAddr md s).2).regs = s.regs := by
  cases md <;> simp [effAddr]
@[simp] theorem effAddr_run (md : MemMode) (s : State) : ((effAddr md s).2).run = s.run := by
  cases md <;> simp [effAddr]
@[simp] theorem effAddr_irqLine (md : MemMode) (s : State) : ((effAddr md s).2).irqLine = s.irqLine := by
  cases md <;> simp [effAddr]
@[simp] theorem effAddr_nmiPending (md : MemMode) (s : State) : ((effAddr md s).2).nmiPending = s.nmiPending := by
  cases md <;> simp [effAddr]
@[simp] theorem effAddr_resetLine (md : MemMode) (s : State) : ((effAddr md s).2).resetLine = s.resetLine := by
  cases md <;> simp [effAddr]
@[simp] theorem effAddr_mem (md : MemMode) (s : State) : ((effAddr md s).2).mem = s.mem := by
  cases md <;> simp [effAddr]
@[simp] theorem effAddr_params (md : MemMode) (s : State) : ((effAddr md s).2).params = s.params := by
  cases md <;> simp [effAddr]
@[simp] theorem effAddr_inputs (md : MemMode) (s : State) : ((effAddr md s).2).inputs = s.inputs := by
  cases md <;> simp [effAddr]

@[simp] theorem loadMem_regs (md : MemMode) (w : Width) (s : State) : ((loadMem md w s).2).regs = s.regs := by
  simp [loadMem]
@[simp] theorem loadMem_run (md : MemMode) (w : Width) (s : State) : ((loadMem md w s).2).run = s.run := by
  simp [loadMem]
@[simp] theorem loadMem_irqLine (md : MemMode) (w : Width) (s : State) : ((loadMem md w s).2).irqLine = s.irqLine := by
  simp [loadMem]
@[simp] theorem loadMem_nmiPending (md : MemMode) (w : Width) (s : State) : ((loadMem md w s).2).nmiPending = s.nmiPending := by
  simp [loadMem]
@[simp] theorem loadMem_resetLine (md : MemMode) (w : Width) (s : State) : ((loadMem md w s).2).resetLine = s.resetLine := by
  simp [loadMem]
@[simp] theorem loadMem_mem (md : MemMode) (w : Width) (s : State) : ((loadMem md w s).2).mem = s.mem := by
  simp [loadMem]
@[simp] theorem loadMem_params (md : MemMode) (w : Width) (s : State) : ((loadMem md w s).2).params = s.params := by
  simp [loadMem]
@[simp] theorem loadMem_inputs (md : MemMode) (w : Width) (s : State) : ((loadMem md w s).2).inputs = s.inputs := by
  simp [loadMem]

@[simp] theorem loadOperand_regs (o : Operand) (w : Width) (s : State) : ((loadOperand o w s).2).regs = s.regs := by
  cases o <;> simp [loadOperand]
@[simp] theorem loadOperand_run (o : Operand) (w : Width) (s : State) : ((loadOperand o w s).2).run = s.run := by
  cases o <;> simp [loadOperand]
@[simp] theorem loadOperand_irqLine (o : Operand) (w : Width) (s : State) : ((loadOperand o w s).2).irqLine = s.irqLine := by
  cases o <;> simp [loadOperand]
@[simp] theorem loadOperand_nmiPending (o : Operand) (w : Width) (s : State) : ((loadOperand o w s).2).nmiPending = s.nmiPending := by
  cases o <;> simp [loadOperand]
@[simp] theorem loadOperand_resetLine (o : Operand) (w : Width) (s : State) : ((loadOperand o w s).2).resetLine = s.resetLine := by
  cases o <;> simp [loadOperand]
@[simp] theorem loadOperand_mem (o : Operand) (w : Width) (s : State) : ((loadOperand o w s).2).mem = s.mem := by
  cases o <;> simp [loadOperand]
@[simp] theorem loadOperand_params (o : Operand) (w : Width) (s : State) : ((loadOperand o w s).2).params = s.params := by
  cases o <;> simp [loadOperand]
@[simp] theorem loadOperand_inputs (o : Operand) (w : Width) (s : State) : ((loadOperand o w s).2).inputs = s.inputs := by
  cases o <;> simp [loadOperand]

@[simp] theorem drawBit_regs (s : State) : ((drawBit s).2).regs = s.regs := by
  rfl
@[simp] theorem drawBit_run (s : State) : ((drawBit s).2).run = s.run := by
  rfl
@[simp] theorem drawBit_irqLine (s : State) : ((drawBit s).2).irqLine = s.irqLine := by
  rfl
@[simp] theorem drawBit_nmiPending (s : State) : ((drawBit s).2).nmiPending = s.nmiPending := by
  rfl
@[simp] theorem drawBit_resetLine (s : State) : ((drawBit s).2).resetLine = s.resetLine := by
  rfl
@[simp] theorem drawBit_mem (s : State) : ((drawBit s).2).mem = s.mem := by
  rfl
@[simp] theorem drawBit_params (s : State) : ((drawBit s).2).params = s.params := by
  rfl
@[simp] theorem drawBit_inputs (s : State) : ((drawBit s).2).inputs = s.inputs := by
  rfl

@[simp] theorem drawByte_regs (s : State) : ((drawByte s).2).regs = s.regs := by
  rfl
@[simp] theorem drawByte_run (s : State) : ((drawByte s).2).run = s.run := by
  rfl
@[simp] theorem drawByte_irqLine (s : State) : ((drawByte s).2).irqLine = s.irqLine := by
  rfl
@[simp] theorem drawByte_nmiPending (s : State) : ((drawByte s).2).nmiPending = s.nmiPending := by
  rfl
@[simp] theorem drawByte_resetLine (s : State) : ((drawByte s).2).resetLine = s.resetLine := by
  rfl
@[simp] theorem drawByte_mem (s : State) : ((drawByte s).2).mem = s.mem := by
  rfl
@[simp] theorem drawByte_params (s : State) : ((drawByte s).2).params = s.params := by
  rfl
@[simp] theorem drawByte_inputs (s : State) : ((drawByte s).2).inputs = s.inputs := by
  rfl

@[simp] theorem drawWord_regs (s : State) : ((drawWord s).2).regs = s.regs := by
  rfl
@[simp] theorem drawWord_run (s : State) : ((drawWord s).2).run = s.run := by
  rfl
@[simp] theorem drawWord_irqLine (s : State) : ((drawWord s).2).irqLine = s.irqLine := by
  rfl
@[simp] theorem drawWord_nmiPending (s : State) : ((drawWord s).2).nmiPending = s.nmiPending := by
  rfl
@[simp] theorem drawWord_resetLine (s : State) : ((drawWord s).2).resetLine = s.resetLine := by
  rfl
@[simp] theorem drawWord_mem (s : State) : ((drawWord s).2).mem = s.mem := by
  rfl
@[simp] theorem drawWord_params (s : State) : ((drawWord s).2).params = s.params := by
  rfl
@[simp] theorem drawWord_inputs (s : State) : ((drawWord s).2).inputs = s.inputs := by
  rfl

/-! ### Writes: registers and lines stay, memory and the device log can change -/

@[simp] theorem writeByte_regs (a : Addr) (v : Byte) (s : State) : (writeByte a v s).regs = s.regs := by
  unfold writeByte; split <;> rfl
@[simp] theorem writeByte_run (a : Addr) (v : Byte) (s : State) : (writeByte a v s).run = s.run := by
  unfold writeByte; split <;> rfl
@[simp] theorem writeByte_irqLine (a : Addr) (v : Byte) (s : State) : (writeByte a v s).irqLine = s.irqLine := by
  unfold writeByte; split <;> rfl
@[simp] theorem writeByte_nmiPending (a : Addr) (v : Byte) (s : State) : (writeByte a v s).nmiPending = s.nmiPending := by
  unfold writeByte; split <;> rfl
@[simp] theorem writeByte_resetLine (a : Addr) (v : Byte) (s : State) : (writeByte a v s).resetLine = s.resetLine := by
  unfold writeByte; split <;> rfl
@[simp] theorem writeByte_params (a : Addr) (v : Byte) (s : State) : (writeByte a v s).params = s.params := by
  unfold writeByte; split <;> rfl
@[simp] theorem writeByte_inputs (a : Addr) (v : Byte) (s : State) : (writeByte a v s).inputs = s.inputs := by
  unfold writeByte; split <;> rfl
@[simp] theorem writeByte_draws (a : Addr) (v : Byte) (s : State) : (writeByte a v s).draws = s.draws := by
  unfold writeByte; split <;> rfl

@[simp] theorem storeEA_regs (ea : EA) (w : Width) (v : Word) (s : State) : (storeEA ea w v s).regs = s.regs := by
  cases w <;> simp [storeEA]
@[simp] theorem storeEA_run (ea : EA) (w : Width) (v : Word) (s : State) : (storeEA ea w v s).run = s.run := by
  cases w <;> simp [storeEA]
@[simp] theorem storeEA_irqLine (ea : EA) (w : Width) (v : Word) (s : State) : (storeEA ea w v s).irqLine = s.irqLine := by
  cases w <;> simp [storeEA]
@[simp] theorem storeEA_nmiPending (ea : EA) (w : Width) (v : Word) (s : State) : (storeEA ea w v s).nmiPending = s.nmiPending := by
  cases w <;> simp [storeEA]
@[simp] theorem storeEA_resetLine (ea : EA) (w : Width) (v : Word) (s : State) : (storeEA ea w v s).resetLine = s.resetLine := by
  cases w <;> simp [storeEA]
@[simp] theorem storeEA_params (ea : EA) (w : Width) (v : Word) (s : State) : (storeEA ea w v s).params = s.params := by
  cases w <;> simp [storeEA]
@[simp] theorem storeEA_inputs (ea : EA) (w : Width) (v : Word) (s : State) : (storeEA ea w v s).inputs = s.inputs := by
  cases w <;> simp [storeEA]
@[simp] theorem storeEA_draws (ea : EA) (w : Width) (v : Word) (s : State) : (storeEA ea w v s).draws = s.draws := by
  cases w <;> simp [storeEA]

@[simp] theorem storeBackEA_regs (ea : EA) (w : Width) (v : Word) (s : State) : (storeBackEA ea w v s).regs = s.regs := by
  cases w <;> simp [storeBackEA]
@[simp] theorem storeBackEA_run (ea : EA) (w : Width) (v : Word) (s : State) : (storeBackEA ea w v s).run = s.run := by
  cases w <;> simp [storeBackEA]
@[simp] theorem storeBackEA_irqLine (ea : EA) (w : Width) (v : Word) (s : State) : (storeBackEA ea w v s).irqLine = s.irqLine := by
  cases w <;> simp [storeBackEA]
@[simp] theorem storeBackEA_nmiPending (ea : EA) (w : Width) (v : Word) (s : State) : (storeBackEA ea w v s).nmiPending = s.nmiPending := by
  cases w <;> simp [storeBackEA]
@[simp] theorem storeBackEA_resetLine (ea : EA) (w : Width) (v : Word) (s : State) : (storeBackEA ea w v s).resetLine = s.resetLine := by
  cases w <;> simp [storeBackEA]
@[simp] theorem storeBackEA_params (ea : EA) (w : Width) (v : Word) (s : State) : (storeBackEA ea w v s).params = s.params := by
  cases w <;> simp [storeBackEA]
@[simp] theorem storeBackEA_inputs (ea : EA) (w : Width) (v : Word) (s : State) : (storeBackEA ea w v s).inputs = s.inputs := by
  cases w <;> simp [storeBackEA]
@[simp] theorem storeBackEA_draws (ea : EA) (w : Width) (v : Word) (s : State) : (storeBackEA ea w v s).draws = s.draws := by
  cases w <;> simp [storeBackEA]

@[simp] theorem storeMem_regs (md : MemMode) (w : Width) (v : Word) (s : State) : (storeMem md w v s).regs = s.regs := by
  simp [storeMem]
@[simp] theorem storeMem_run (md : MemMode) (w : Width) (v : Word) (s : State) : (storeMem md w v s).run = s.run := by
  simp [storeMem]
@[simp] theorem storeMem_irqLine (md : MemMode) (w : Width) (v : Word) (s : State) : (storeMem md w v s).irqLine = s.irqLine := by
  simp [storeMem]
@[simp] theorem storeMem_nmiPending (md : MemMode) (w : Width) (v : Word) (s : State) : (storeMem md w v s).nmiPending = s.nmiPending := by
  simp [storeMem]
@[simp] theorem storeMem_resetLine (md : MemMode) (w : Width) (v : Word) (s : State) : (storeMem md w v s).resetLine = s.resetLine := by
  simp [storeMem]
@[simp] theorem storeMem_params (md : MemMode) (w : Width) (v : Word) (s : State) : (storeMem md w v s).params = s.params := by
  simp [storeMem]
@[simp] theorem storeMem_inputs (md : MemMode) (w : Width) (v : Word) (s : State) : (storeMem md w v s).inputs = s.inputs := by
  simp [storeMem]

/-! ### The stack: S moves, memory can change by a push -/

@[simp] theorem push8_run (v : Byte) (s : State) : (push8 v s).run = s.run := by
  simp [push8]
@[simp] theorem push8_irqLine (v : Byte) (s : State) : (push8 v s).irqLine = s.irqLine := by
  simp [push8]
@[simp] theorem push8_nmiPending (v : Byte) (s : State) : (push8 v s).nmiPending = s.nmiPending := by
  simp [push8]
@[simp] theorem push8_resetLine (v : Byte) (s : State) : (push8 v s).resetLine = s.resetLine := by
  simp [push8]
@[simp] theorem push8_params (v : Byte) (s : State) : (push8 v s).params = s.params := by
  simp [push8]
@[simp] theorem push8_inputs (v : Byte) (s : State) : (push8 v s).inputs = s.inputs := by
  simp [push8]
@[simp] theorem push8_draws (v : Byte) (s : State) : (push8 v s).draws = s.draws := by
  simp [push8]

@[simp] theorem push16_run (v : Word) (s : State) : (push16 v s).run = s.run := by
  simp [push16]
@[simp] theorem push16_irqLine (v : Word) (s : State) : (push16 v s).irqLine = s.irqLine := by
  simp [push16]
@[simp] theorem push16_nmiPending (v : Word) (s : State) : (push16 v s).nmiPending = s.nmiPending := by
  simp [push16]
@[simp] theorem push16_resetLine (v : Word) (s : State) : (push16 v s).resetLine = s.resetLine := by
  simp [push16]
@[simp] theorem push16_params (v : Word) (s : State) : (push16 v s).params = s.params := by
  simp [push16]
@[simp] theorem push16_inputs (v : Word) (s : State) : (push16 v s).inputs = s.inputs := by
  simp [push16]
@[simp] theorem push16_draws (v : Word) (s : State) : (push16 v s).draws = s.draws := by
  simp [push16]

@[simp] theorem pushWidth_run (w : Width) (v : Word) (s : State) : (pushWidth w v s).run = s.run := by
  cases w <;> simp [pushWidth]
@[simp] theorem pushWidth_irqLine (w : Width) (v : Word) (s : State) : (pushWidth w v s).irqLine = s.irqLine := by
  cases w <;> simp [pushWidth]
@[simp] theorem pushWidth_nmiPending (w : Width) (v : Word) (s : State) : (pushWidth w v s).nmiPending = s.nmiPending := by
  cases w <;> simp [pushWidth]
@[simp] theorem pushWidth_resetLine (w : Width) (v : Word) (s : State) : (pushWidth w v s).resetLine = s.resetLine := by
  cases w <;> simp [pushWidth]
@[simp] theorem pushWidth_params (w : Width) (v : Word) (s : State) : (pushWidth w v s).params = s.params := by
  cases w <;> simp [pushWidth]
@[simp] theorem pushWidth_inputs (w : Width) (v : Word) (s : State) : (pushWidth w v s).inputs = s.inputs := by
  cases w <;> simp [pushWidth]
@[simp] theorem pushWidth_draws (w : Width) (v : Word) (s : State) : (pushWidth w v s).draws = s.draws := by
  cases w <;> simp [pushWidth]

@[simp] theorem pull8_run (s : State) : ((pull8 s).2).run = s.run := by
  simp [pull8]
@[simp] theorem pull8_irqLine (s : State) : ((pull8 s).2).irqLine = s.irqLine := by
  simp [pull8]
@[simp] theorem pull8_nmiPending (s : State) : ((pull8 s).2).nmiPending = s.nmiPending := by
  simp [pull8]
@[simp] theorem pull8_resetLine (s : State) : ((pull8 s).2).resetLine = s.resetLine := by
  simp [pull8]
@[simp] theorem pull8_params (s : State) : ((pull8 s).2).params = s.params := by
  simp [pull8]
@[simp] theorem pull8_inputs (s : State) : ((pull8 s).2).inputs = s.inputs := by
  simp [pull8]
@[simp] theorem pull8_mem (s : State) : ((pull8 s).2).mem = s.mem := by
  simp [pull8]

@[simp] theorem pull16_run (s : State) : ((pull16 s).2).run = s.run := by
  simp [pull16]
@[simp] theorem pull16_irqLine (s : State) : ((pull16 s).2).irqLine = s.irqLine := by
  simp [pull16]
@[simp] theorem pull16_nmiPending (s : State) : ((pull16 s).2).nmiPending = s.nmiPending := by
  simp [pull16]
@[simp] theorem pull16_resetLine (s : State) : ((pull16 s).2).resetLine = s.resetLine := by
  simp [pull16]
@[simp] theorem pull16_params (s : State) : ((pull16 s).2).params = s.params := by
  simp [pull16]
@[simp] theorem pull16_inputs (s : State) : ((pull16 s).2).inputs = s.inputs := by
  simp [pull16]
@[simp] theorem pull16_mem (s : State) : ((pull16 s).2).mem = s.mem := by
  simp [pull16]

@[simp] theorem pullWidth_run (w : Width) (s : State) : ((pullWidth w s).2).run = s.run := by
  cases w <;> simp [pullWidth]
@[simp] theorem pullWidth_irqLine (w : Width) (s : State) : ((pullWidth w s).2).irqLine = s.irqLine := by
  cases w <;> simp [pullWidth]
@[simp] theorem pullWidth_nmiPending (w : Width) (s : State) : ((pullWidth w s).2).nmiPending = s.nmiPending := by
  cases w <;> simp [pullWidth]
@[simp] theorem pullWidth_resetLine (w : Width) (s : State) : ((pullWidth w s).2).resetLine = s.resetLine := by
  cases w <;> simp [pullWidth]
@[simp] theorem pullWidth_params (w : Width) (s : State) : ((pullWidth w s).2).params = s.params := by
  cases w <;> simp [pullWidth]
@[simp] theorem pullWidth_inputs (w : Width) (s : State) : ((pullWidth w s).2).inputs = s.inputs := by
  cases w <;> simp [pullWidth]
@[simp] theorem pullWidth_mem (w : Width) (s : State) : ((pullWidth w s).2).mem = s.mem := by
  cases w <;> simp [pullWidth]

@[simp] theorem push8_regs (v : Byte) (s : State) : (push8 v s).regs = s.regs.decS := by simp [push8]

@[simp] theorem push16_regs (v : Word) (s : State) : (push16 v s).regs = s.regs.decS.decS := by simp [push16]

@[simp] theorem pull8_regs (s : State) : (pull8 s).2.regs = s.regs.incS := by simp [pull8]

@[simp] theorem pull16_regs (s : State) : (pull16 s).2.regs = s.regs.incS.incS := by simp [pull16]

@[simp] theorem pushWidth_regs (w : Width) (v : Word) (s : State) :
    (pushWidth w v s).regs = match w with
      | .w8 => s.regs.decS
      | .w16 => s.regs.decS.decS := by cases w <;> simp [pushWidth]

@[simp] theorem pullWidth_regs (w : Width) (s : State) :
    (pullWidth w s).2.regs = match w with
      | .w8 => s.regs.incS
      | .w16 => s.regs.incS.incS := by cases w <;> simp [pullWidth]

/-! ### Instruction fetch: a read, too -/

@[simp] theorem fetchFrom_regs (k n : Nat) (s : State) : ((fetchFrom k n s).2).regs = s.regs := by
  induction n generalizing k s with
  | zero => rfl
  | succ n ih => simp [fetchFrom, ih]
@[simp] theorem fetchFrom_run (k n : Nat) (s : State) : ((fetchFrom k n s).2).run = s.run := by
  induction n generalizing k s with
  | zero => rfl
  | succ n ih => simp [fetchFrom, ih]
@[simp] theorem fetchFrom_irqLine (k n : Nat) (s : State) : ((fetchFrom k n s).2).irqLine = s.irqLine := by
  induction n generalizing k s with
  | zero => rfl
  | succ n ih => simp [fetchFrom, ih]
@[simp] theorem fetchFrom_nmiPending (k n : Nat) (s : State) : ((fetchFrom k n s).2).nmiPending = s.nmiPending := by
  induction n generalizing k s with
  | zero => rfl
  | succ n ih => simp [fetchFrom, ih]
@[simp] theorem fetchFrom_resetLine (k n : Nat) (s : State) : ((fetchFrom k n s).2).resetLine = s.resetLine := by
  induction n generalizing k s with
  | zero => rfl
  | succ n ih => simp [fetchFrom, ih]
@[simp] theorem fetchFrom_mem (k n : Nat) (s : State) : ((fetchFrom k n s).2).mem = s.mem := by
  induction n generalizing k s with
  | zero => rfl
  | succ n ih => simp [fetchFrom, ih]
@[simp] theorem fetchFrom_params (k n : Nat) (s : State) : ((fetchFrom k n s).2).params = s.params := by
  induction n generalizing k s with
  | zero => rfl
  | succ n ih => simp [fetchFrom, ih]
@[simp] theorem fetchFrom_inputs (k n : Nat) (s : State) : ((fetchFrom k n s).2).inputs = s.inputs := by
  induction n generalizing k s with
  | zero => rfl
  | succ n ih => simp [fetchFrom, ih]

@[simp] theorem fetchInstr_regs (s : State) : ((fetchInstr s).2).regs = s.regs := by
  simp [fetchInstr]
@[simp] theorem fetchInstr_run (s : State) : ((fetchInstr s).2).run = s.run := by
  simp [fetchInstr]
@[simp] theorem fetchInstr_irqLine (s : State) : ((fetchInstr s).2).irqLine = s.irqLine := by
  simp [fetchInstr]
@[simp] theorem fetchInstr_nmiPending (s : State) : ((fetchInstr s).2).nmiPending = s.nmiPending := by
  simp [fetchInstr]
@[simp] theorem fetchInstr_resetLine (s : State) : ((fetchInstr s).2).resetLine = s.resetLine := by
  simp [fetchInstr]
@[simp] theorem fetchInstr_mem (s : State) : ((fetchInstr s).2).mem = s.mem := by
  simp [fetchInstr]
@[simp] theorem fetchInstr_params (s : State) : ((fetchInstr s).2).params = s.params := by
  simp [fetchInstr]
@[simp] theorem fetchInstr_inputs (s : State) : ((fetchInstr s).2).inputs = s.inputs := by
  simp [fetchInstr]

/-! ### Memory and the canonical form -/

/-- What a one-byte write does to the bytes of memory: only RAM takes it (R71). -/
theorem writeByte_mem (a : Addr) (v : Byte) (s : State) :
    (writeByte a v s).mem = if s.kindAt a = .ram then s.mem.set a.toNat v else s.mem := by
  unfold writeByte
  cases h : s.kindAt a <;> simp

theorem writeByte_wf (a : Addr) (v : Byte) {s : State} (h : s.mem.wf = true) : (writeByte a v s).mem.wf = true := by
  rw [writeByte_mem]
  split
  · exact Memory.wf_set a.isLt v h
  · exact h

/-- The bytes after a one-byte write. -/
theorem writeByte_byteAt (a : Addr) (v : Byte) {s : State} (h : s.mem.wf = true) (b : Addr) :
    (writeByte a v s).byteAt b = if b = a ∧ s.kindAt a = .ram then v else s.byteAt b := by
  unfold State.byteAt
  rw [writeByte_mem]
  by_cases hk : s.kindAt a = .ram
  · simp only [hk, if_true, and_true]
    rw [Memory.get_set h]
    by_cases hb : b = a
    · simp [hb]
    · have : b.toNat ≠ a.toNat := fun h' => hb (BitVec.eq_of_toNat_eq h')
      simp [hb, this]
  · simp [hk]

theorem storeEA_wf (ea : EA) (w : Width) (v : Word) {s : State} (h : s.mem.wf = true) :
    (storeEA ea w v s).mem.wf = true := by
  cases w
  · exact writeByte_wf _ _ h
  · exact writeByte_wf _ _ (writeByte_wf _ _ h)

theorem storeBackEA_wf (ea : EA) (w : Width) (v : Word) {s : State} (h : s.mem.wf = true) :
    (storeBackEA ea w v s).mem.wf = true := by
  cases w
  · exact writeByte_wf _ _ h
  · exact writeByte_wf _ _ (writeByte_wf _ _ h)

theorem storeMem_wf (md : MemMode) (w : Width) (v : Word) {s : State} (h : s.mem.wf = true) :
    (storeMem md w v s).mem.wf = true := storeEA_wf _ _ _ (by simpa using h)

theorem push8_wf (v : Byte) {s : State} (h : s.mem.wf = true) : (push8 v s).mem.wf = true := by
  simpa [push8] using writeByte_wf _ _ h

theorem push16_wf (v : Word) {s : State} (h : s.mem.wf = true) : (push16 v s).mem.wf = true :=
  push8_wf _ (push8_wf _ h)

theorem pushWidth_wf (w : Width) (v : Word) {s : State} (h : s.mem.wf = true) : (pushWidth w v s).mem.wf = true := by
  cases w
  · exact push8_wf _ h
  · exact push16_wf _ h

/-- What stands at an address depends on the map alone (R40). -/
theorem kindAt_congr {s t : State} (h : t.params = s.params) (a : Addr) : t.kindAt a = s.kindAt a := by
  simp [State.kindAt, h]

/-- A read of RAM or ROM gives the byte held there and changes nothing. -/
theorem readByte_memory {a : Addr} {s : State} (h : s.kindAt a = .ram ∨ s.kindAt a = .rom) :
    readByte a s = (s.byteAt a, s) := by
  rcases h with h | h <;> simp [readByte, h]

/-- What a read can change (R71, R40, R69). -/
theorem readByte_frame (a : Addr) (s : State) :
    ∃ n l, (readByte a s).2 = { s with draws := n, deviceLog := l } := by
  unfold readByte
  cases s.kindAt a
  · exact ⟨s.draws, s.deviceLog, rfl⟩
  · exact ⟨s.draws, s.deviceLog, rfl⟩
  · exact ⟨s.draws + 1, .read a (Config.deviceAnswer s.draws a) :: s.deviceLog, rfl⟩
  · exact ⟨s.draws + 1, s.deviceLog, rfl⟩

end Sys2Proof.Machine
end

