-- ==== Sys2Proof/Laws/Exec.lean ====
section
/-! SUPPORT. What `exec` is for every instruction with a data operand, said once by mnemonic and operand. -/

namespace Sys2Proof.Machine

/-- The meaning of an instruction with a data operand, by its mnemonic (groups 1 to 3). -/
def operandMeaning (k : Mnemonic) (o : Operand) (s : State) : State :=
  match k, o with
  | .adc, o => adcOp o s
  | .and, o => andOp o s
  | .cmp, o => cmpOp o s
  | .eor, o => eorOp o s
  | .lda, o => ldaOp o s
  | .ora, o => oraOp o s
  | .sbc, o => sbcOp o s
  | .bit, o => bitTest o s
  | .ldx, o => ldxOp o s
  | .ldy, o => ldyOp o s
  | .cpx, o => cpxOp o s
  | .cpy, o => cpyOp o s
  | .sta, .mem md => staOp md s
  | .stx, .mem md => stxOp md s
  | .sty, .mem md => styOp md s
  | .stz, .mem md => stzOp md s
  | .ror, .mem md => modifyMem rorResult md s
  | .asl, .mem md => modifyMem aslResult md s
  | .lsr, .mem md => modifyMem lsrResult md s
  | .rol, .mem md => modifyMem rolResult md s
  | .inc, .mem md => modifyMem incResult md s
  | .dec, .mem md => modifyMem decResult md s
  | .trb, .mem md => trbOp md s
  | .tsb, .mem md => tsbOp md s
  | _, _ => s

/-- The width of the operand: M for groups 1 and 2, X for the index registers. -/
def operandWidth (k : Mnemonic) (r : Regs) : Width :=
  match k with
  | .ldx | .ldy | .cpx | .cpy => r.wX
  | _ => r.wA

/-- `exec` of an instruction with a data operand. -/
theorem exec_of_dataOperand {i : Instr} {o : Operand} (h : i.dataOperand = some o) (s : State) :
    exec i s = .next (operandMeaning i.mnemonic o s) := by
  cases i <;> cases h <;> rfl

/-- Its length is the length of its encoding under the current M and X (R93). -/
theorem length_of_dataOperand {i : Instr} {o : Operand} (h : i.dataOperand = some o) (r : Regs) :
    (encode r.p.m r.p.x i).length = operandLen (operandWidth i.mnemonic r) o := by
  cases i <;> cases h <;>
    first
    | rfl
    | (cases hm : r.p.m <;> simp only [encode, Instr.coding, OperandBytes.bytes, hm, operandLen, operandWidth,
        Instr.mnemonic, Regs.wA, Width.ofFlag] <;> rfl)
    | (cases hx : r.p.x <;> simp only [encode, Instr.coding, OperandBytes.bytes, hx, operandLen, operandWidth,
        Instr.mnemonic, Regs.wX, Width.ofFlag] <;> rfl)

/-- Every instruction whose mnemonic is not one of these has no data operand; every one that has is not of the others. -/
theorem dataOperand_isSome {i : Instr}
    (h : i.mnemonic ∈ [.adc, .and, .cmp, .eor, .lda, .ora, .sbc, .sta, .bit, .trb, .tsb, .ldx, .ldy, .cpx, .cpy, .stx, .sty,
      .stz]) : ∃ o, i.dataOperand = some o := by
  cases i <;> first
    | exact ⟨_, rfl⟩
    | (exfalso; revert h; simp [Instr.mnemonic, Instr.coding])

end Sys2Proof.Machine
end

