-- ==== Sys2Proof/Laws/Values.lean ====
section
/-! SUPPORT. Values at a width as numbers, and what reads leave of the state. -/

namespace Sys2Proof.Machine

/-! ### Values at a width -/

theorem Width.trunc_w8 (v : Word) : Width.w8.trunc v = word 0x00#8 (lo v) := rfl

@[simp] theorem Width.trunc_w16 (v : Word) : Width.w16.trunc v = v := rfl

/-- A value of the width, as a number. -/
theorem Width.trunc_toNat (w : Width) (v : Word) : (w.trunc v).toNat = v.toNat % 2 ^ w.bits := by
  cases w
  · simp [Width.trunc, word_toNat, lo_toNat, Width.bits]
  · simp only [Width.trunc, Width.bits]; omega

@[simp] theorem Width.trunc_trunc (w : Width) (v : Word) : w.trunc (w.trunc v) = w.trunc v := by
  apply BitVec.eq_of_toNat_eq; simp [Width.trunc_toNat]

/-- Truncating to 8 bits what was built from a low byte changes nothing. -/
@[simp] theorem Width.trunc_word0 (w : Width) (b : Byte) : w.trunc (word 0x00#8 b) = word 0x00#8 b := by
  cases w
  · simp [Width.trunc]
  · rfl

/-- `Z` as a number (R31). -/
theorem Width.trunc_eq_zero (w : Width) (v : Word) : w.trunc v = 0x0000#16 ↔ v.toNat % 2 ^ w.bits = 0 := by
  rw [← Width.trunc_toNat]
  constructor
  · intro h; simp [h]
  · intro h; apply BitVec.eq_of_toNat_eq; simpa using h

/-- A reduced number, as a number. -/
theorem Width.reduce_toNat (w : Width) (n : Nat) : (w.reduce n).toNat = n % 2 ^ w.bits := by
  cases w <;> simp only [Width.reduce, Width.bits, BitVec.toNat_ofNat] <;> omega

@[simp] theorem Width.trunc_reduce (w : Width) (n : Nat) : w.trunc (w.reduce n) = w.reduce n := by
  apply BitVec.eq_of_toNat_eq; simp [Width.trunc_toNat, Width.reduce_toNat]

theorem Width.bits_pos (w : Width) : 8 ≤ w.bits := by cases w <;> simp [Width.bits]

/-- The accumulator at its width (R22). -/
theorem Regs.trunc_acc (r : Regs) : r.wA.trunc r.acc = r.acc := by simp [Regs.acc]

theorem Regs.acc_lt (r : Regs) : r.acc.toNat < 2 ^ r.wA.bits := by
  rw [Regs.acc, Width.trunc_toNat]; exact Nat.mod_lt _ (by positivity)

/-! ### What a load gives is of the width -/

@[simp] theorem loadEA_trunc (ea : EA) (w : Width) (s : State) : w.trunc (loadEA ea w s).1 = (loadEA ea w s).1 := by
  cases w <;> simp [loadEA]

@[simp] theorem loadMem_trunc (md : MemMode) (w : Width) (s : State) :
    w.trunc (loadMem md w s).1 = (loadMem md w s).1 := by simp [loadMem]

@[simp] theorem loadOperand_trunc (o : Operand) (w : Width) (s : State) :
    w.trunc (loadOperand o w s).1 = (loadOperand o w s).1 := by cases o <;> simp [loadOperand]

@[simp] theorem pullWidth_trunc (w : Width) (s : State) : w.trunc (pullWidth w s).1 = (pullWidth w s).1 := by
  cases w <;> simp [pullWidth]

theorem loadOperand_lt (o : Operand) (w : Width) (s : State) : (loadOperand o w s).1.toNat < 2 ^ w.bits := by
  rw [← loadOperand_trunc, Width.trunc_toNat]; exact Nat.mod_lt _ (by positivity)

theorem loadMem_lt (md : MemMode) (w : Width) (s : State) : (loadMem md w s).1.toNat < 2 ^ w.bits := by
  rw [← loadMem_trunc, Width.trunc_toNat]; exact Nat.mod_lt _ (by positivity)

/-! ### What a read leaves of the state -/

/-- Two states that agree but for the draws and the device log, written as an update. -/
theorem State.eq_of_reads {s t : State} (h : t.regs = s.regs) (h1 : t.run = s.run) (h2 : t.irqLine = s.irqLine)
    (h3 : t.nmiPending = s.nmiPending) (h4 : t.resetLine = s.resetLine) (h5 : t.mem = s.mem)
    (h6 : t.params = s.params) (h7 : t.inputs = s.inputs) :
    t = { s with draws := t.draws, deviceLog := t.deviceLog } := by
  cases s; cases t; simp_all

theorem read16_frame (ea : EA) (s : State) : ∃ n l, (read16 ea s).2 = { s with draws := n, deviceLog := l } :=
  ⟨_, _, State.eq_of_reads (by simp) (by simp) (by simp) (by simp) (by simp) (by simp) (by simp) (by simp)⟩

theorem read24_frame (ea : EA) (s : State) : ∃ n l, (read24 ea s).2 = { s with draws := n, deviceLog := l } :=
  ⟨_, _, State.eq_of_reads (by simp) (by simp) (by simp) (by simp) (by simp) (by simp) (by simp) (by simp)⟩

theorem loadEA_frame (ea : EA) (w : Width) (s : State) :
    ∃ n l, (loadEA ea w s).2 = { s with draws := n, deviceLog := l } :=
  ⟨_, _, State.eq_of_reads (by simp) (by simp) (by simp) (by simp) (by simp) (by simp) (by simp) (by simp)⟩

theorem effAddr_frame (md : MemMode) (s : State) : ∃ n l, (effAddr md s).2 = { s with draws := n, deviceLog := l } :=
  ⟨_, _, State.eq_of_reads (by simp) (by simp) (by simp) (by simp) (by simp) (by simp) (by simp) (by simp)⟩

theorem loadOperand_frame (o : Operand) (w : Width) (s : State) :
    ∃ n l, (loadOperand o w s).2 = { s with draws := n, deviceLog := l } :=
  ⟨_, _, State.eq_of_reads (by simp) (by simp) (by simp) (by simp) (by simp) (by simp) (by simp) (by simp)⟩

theorem pull8_frame (s : State) :
    ∃ n l, (pull8 s).2 = { s with regs := s.regs.incS, draws := n, deviceLog := l } := by
  obtain ⟨n, l, h⟩ := readByte_frame (s.onRegs Regs.incS).regs.stackAddr (s.onRegs Regs.incS)
  exact ⟨n, l, h⟩

theorem fetchInstr_frame (s : State) : ∃ n l, (fetchInstr s).2 = { s with draws := n, deviceLog := l } :=
  ⟨_, _, State.eq_of_reads (by simp) (by simp) (by simp) (by simp) (by simp) (by simp) (by simp) (by simp)⟩

/-! ### Reads of RAM and ROM -/

theorem read16_memory {ea : EA} {s : State} (h0 : s.kindAt (ea.byteAddr 0) = .ram ∨ s.kindAt (ea.byteAddr 0) = .rom)
    (h1 : s.kindAt (ea.byteAddr 1) = .ram ∨ s.kindAt (ea.byteAddr 1) = .rom) :
    read16 ea s = (word (s.byteAt (ea.byteAddr 1)) (s.byteAt (ea.byteAddr 0)), s) := by
  simp [read16, readByte_memory h0, readByte_memory h1]

theorem read24_memory {ea : EA} {s : State} (h0 : s.kindAt (ea.byteAddr 0) = .ram ∨ s.kindAt (ea.byteAddr 0) = .rom)
    (h1 : s.kindAt (ea.byteAddr 1) = .ram ∨ s.kindAt (ea.byteAddr 1) = .rom)
    (h2 : s.kindAt (ea.byteAddr 2) = .ram ∨ s.kindAt (ea.byteAddr 2) = .rom) :
    read24 ea s = (bankAddr (s.byteAt (ea.byteAddr 2))
      (word (s.byteAt (ea.byteAddr 1)) (s.byteAt (ea.byteAddr 0))), s) := by
  simp [read24, read16_memory h0 h1, readByte_memory h2]

/-- The first two bytes of an access stand at different addresses. -/
theorem EA.byteAddr_ne (ea : EA) : ea.byteAddr 1 ≠ ea.byteAddr 0 := by
  cases ea with
  | bank b a =>
    intro h
    have := congrArg BitVec.toNat h
    simp [EA.byteAddr, bankAddr_toNat] at this
    omega
  | lin a =>
    intro h
    have := congrArg BitVec.toNat h
    simp [EA.byteAddr] at this
    omega
  | page a =>
    intro h
    have := congrArg BitVec.toNat h
    have ha : a.toNat = (hi a).toNat * 256 + (lo a).toNat := by rw [← word_toNat, word_hi_lo]
    have hl := (lo a).isLt
    simp [EA.byteAddr, bankAddr_toNat, word_toNat] at this
    omega

/-- The bytes after a store of a width (R65, R71). -/
theorem storeEA_byteAt (ea : EA) (w : Width) (v : Word) {s : State} (h : s.mem.wf = true) (a : Addr) :
    (storeEA ea w v s).byteAt a =
      if s.kindAt a = .ram ∧ a = ea.byteAddr 0 then lo v
      else if s.kindAt a = .ram ∧ w = .w16 ∧ a = ea.byteAddr 1 then hi v
      else s.byteAt a := by
  have hne := ea.byteAddr_ne
  cases w
  · simp only [storeEA]; rw [writeByte_byteAt _ _ h]
    by_cases ha : a = ea.byteAddr 0
    · subst ha; simp
    · simp [ha]
  · simp only [storeEA]
    have h1 := writeByte_wf (ea.byteAddr 0) (lo v) h
    rw [writeByte_byteAt _ _ h1, writeByte_byteAt _ _ h]
    have hk1 : ∀ b, (writeByte (ea.byteAddr 0) (lo v) s).kindAt b = s.kindAt b := fun b => kindAt_congr (by simp) b
    rw [hk1]
    by_cases ha : a = ea.byteAddr 0
    · subst ha
      simp [hne.symm]
    · by_cases hb : a = ea.byteAddr 1
      · subst hb
        simp [ha]
      · simp [ha, hb]

/-- The same bytes after the write of a read-modify-write instruction. -/
theorem storeBackEA_byteAt (ea : EA) (w : Width) (v : Word) {s : State} (h : s.mem.wf = true) (a : Addr) :
    (storeBackEA ea w v s).byteAt a =
      if s.kindAt a = .ram ∧ a = ea.byteAddr 0 then lo v
      else if s.kindAt a = .ram ∧ w = .w16 ∧ a = ea.byteAddr 1 then hi v
      else s.byteAt a := by
  have hne := ea.byteAddr_ne
  cases w
  · simp only [storeBackEA]; rw [writeByte_byteAt _ _ h]
    by_cases ha : a = ea.byteAddr 0
    · subst ha; simp
    · simp [ha]
  · simp only [storeBackEA]
    have h1 := writeByte_wf (ea.byteAddr 1) (hi v) h
    rw [writeByte_byteAt _ _ h1, writeByte_byteAt _ _ h]
    have hk1 : ∀ b, (writeByte (ea.byteAddr 1) (hi v) s).kindAt b = s.kindAt b := fun b => kindAt_congr (by simp) b
    rw [hk1]
    by_cases ha : a = ea.byteAddr 0
    · subst ha
      simp [hne.symm]
    · by_cases hb : a = ea.byteAddr 1
      · subst hb
        simp [ha]
      · simp [ha, hb]

end Sys2Proof.Machine
end

