-- ==== Sys2Proof/Laws/Invariant.lean ====
section
/-! SUPPORT. Every named update of the registers keeps their invariant (R23, R24, R30), and every named operation keeps
the state's. -/

namespace Sys2Proof.Machine

/-- The invariant of the registers, as propositions. -/
theorem Regs.inv_iff (r : Regs) : r.inv = true ↔
    (r.e = true → r.p.m = true ∧ r.p.x = true) ∧ (r.p.x = true → hi r.x = 0x00#8 ∧ hi r.y = 0x00#8) ∧
      (r.e = true → hi r.sp = 0x01#8) := by
  simp only [Regs.inv, Regs.modeFlagsHeld, Regs.indexHighClear, Regs.stackPageHeld]
  cases r.e <;> cases r.p.x <;> cases r.p.m <;> simp

theorem State.inv_iff (s : State) : s.inv = true ↔ s.regs.inv = true ∧ s.mem.wf = true := by simp [State.inv]

/-- The high byte of a value of width 8 is 00H. -/
theorem hi_trunc_ofFlag {f : Bool} (h : f = true) (v : Word) : hi ((Width.ofFlag f).trunc v) = 0x00#8 := by
  subst h; simp [Width.ofFlag, Width.trunc]

/-! ### Updates of fields the invariant does not read -/

@[simp] theorem Regs.advance_inv (n : Nat) (r : Regs) : (r.advance n).inv = r.inv := rfl
@[simp] theorem Regs.jump_inv (v : Word) (r : Regs) : (r.jump v).inv = r.inv := rfl
@[simp] theorem Regs.setAcc_inv (v : Word) (r : Regs) : (r.setAcc v).inv = r.inv := rfl
@[simp] theorem Regs.setNZ_inv (w : Width) (v : Word) (r : Regs) : (r.setNZ w v).inv = r.inv := rfl
@[simp] theorem Regs.resultAcc_inv (v : Word) (r : Regs) : (r.resultAcc v).inv = r.inv := rfl
@[simp] theorem Regs.setSum_inv (w : Width) (q : Sum) (r : Regs) : (r.setSum w q).inv = r.inv := rfl
@[simp] theorem Regs.setNZC_inv (w : Width) (q : Word × Bool) (r : Regs) : (r.setNZC w q).inv = r.inv := rfl
@[simp] theorem Regs.setTestZ_inv (m : Word) (r : Regs) : (r.setTestZ m).inv = r.inv := rfl
@[simp] theorem Regs.exchangeBA_inv (r : Regs) : r.exchangeBA.inv = r.inv := rfl
@[simp] theorem Regs.enterHandler_inv (r : Regs) : r.enterHandler.inv = r.inv := rfl

/-! ### Updates of fields it reads -/

theorem Regs.setX_inv (v : Word) {r : Regs} (h : r.inv = true) : (r.setX v).inv = true := by
  rw [Regs.inv_iff] at *
  refine ⟨h.1, fun hx => ⟨hi_trunc_ofFlag hx v, (h.2.1 hx).2⟩, h.2.2⟩

theorem Regs.setY_inv (v : Word) {r : Regs} (h : r.inv = true) : (r.setY v).inv = true := by
  rw [Regs.inv_iff] at *
  refine ⟨h.1, fun hx => ⟨(h.2.1 hx).1, hi_trunc_ofFlag hx v⟩, h.2.2⟩

theorem Regs.resultX_inv (v : Word) {r : Regs} (h : r.inv = true) : (r.resultX v).inv = true := by
  rw [Regs.resultX, Regs.setNZ_inv]; exact Regs.setX_inv v h

theorem Regs.resultY_inv (v : Word) {r : Regs} (h : r.inv = true) : (r.resultY v).inv = true := by
  rw [Regs.resultY, Regs.setNZ_inv]; exact Regs.setY_inv v h

theorem Regs.setS_inv (v : Word) {r : Regs} (h : r.inv = true) : (r.setS v).inv = true := by
  rw [Regs.inv_iff] at *
  refine ⟨h.1, h.2.1, fun he => ?_⟩
  have he' : r.e = true := he
  simp [he', h.2.2 he']

theorem Regs.decS_inv {r : Regs} (h : r.inv = true) : r.decS.inv = true := Regs.setS_inv _ h

theorem Regs.incS_inv {r : Regs} (h : r.inv = true) : r.incS.inv = true := Regs.setS_inv _ h

theorem Regs.unpackP_inv (v : Byte) {r : Regs} (h : r.inv = true) : (r.unpackP v).inv = true := by
  rw [Regs.inv_iff] at *
  cases he : r.e
  · simp only [Regs.unpackP_e, he, Regs.unpackP_p, Status.unpack_x, Regs.unpackP_x, Regs.unpackP_y]
    refine ⟨by simp, fun hx => ?_, by simp⟩
    simp only [Bool.false_eq_true, if_false] at hx
    simp only [Bool.not_false, Bool.true_and, hx, if_true, hi_word, and_self]
  · have hm := h.1 he
    have hx := h.2.1 hm.2
    simp [he, hm, hx, h.2.2 he]

theorem Regs.exchangeCE_inv {r : Regs} (h : r.inv = true) : r.exchangeCE.inv = true := by
  rw [Regs.inv_iff] at *
  cases hc : r.p.c
  · refine ⟨by simp [hc], ?_, by simp [hc]⟩
    simpa [hc] using h.2.1
  · simp [hc]

theorem resetRegs_inv (c : Word) (xl yl sl : Byte) (n v z cf : Bool) :
    (resetRegs c xl yl sl n v z cf).inv = true := by
  rw [Regs.inv_iff]; simp [resetRegs]

/-! ### Operations on the state -/

/-- Changing the registers by an update that keeps their invariant keeps the state's. -/
theorem State.onRegs_inv {s : State} {f : Regs → Regs} (h : s.inv = true)
    (hf : s.regs.inv = true → (f s.regs).inv = true) : (s.onRegs f).inv = true := by
  rw [State.inv_iff] at *
  exact ⟨hf h.1, h.2⟩

/-- What changes neither registers nor memory keeps the invariant. -/
theorem State.inv_congr {s t : State} (hr : t.regs = s.regs) (hm : t.mem = s.mem) (h : s.inv = true) :
    t.inv = true := by
  rw [State.inv_iff] at *; rw [hr, hm]; exact h

theorem writeByte_inv (a : Addr) (v : Byte) {s : State} (h : s.inv = true) : (writeByte a v s).inv = true := by
  rw [State.inv_iff] at *; exact ⟨by simpa using h.1, writeByte_wf a v h.2⟩

theorem storeMem_inv (md : MemMode) (w : Width) (v : Word) {s : State} (h : s.inv = true) :
    (storeMem md w v s).inv = true := by
  rw [State.inv_iff] at *; exact ⟨by simpa using h.1, storeMem_wf md w v h.2⟩

theorem storeBackEA_inv (ea : EA) (w : Width) (v : Word) {s : State} (h : s.inv = true) :
    (storeBackEA ea w v s).inv = true := by
  rw [State.inv_iff] at *; exact ⟨by simpa using h.1, storeBackEA_wf ea w v h.2⟩

theorem push8_inv (v : Byte) {s : State} (h : s.inv = true) : (push8 v s).inv = true :=
  State.onRegs_inv (writeByte_inv _ v h) Regs.decS_inv

theorem push16_inv (v : Word) {s : State} (h : s.inv = true) : (push16 v s).inv = true := by
  rw [push16]; exact push8_inv _ (push8_inv _ h)

theorem pushWidth_inv (w : Width) (v : Word) {s : State} (h : s.inv = true) : (pushWidth w v s).inv = true := by
  cases w
  · exact push8_inv _ h
  · exact push16_inv _ h

theorem pull8_inv {s : State} (h : s.inv = true) : (pull8 s).2.inv = true :=
  State.inv_congr (s := s.onRegs Regs.incS) (by simp) (by simp) (State.onRegs_inv h Regs.incS_inv)

theorem pull16_inv {s : State} (h : s.inv = true) : (pull16 s).2.inv = true := by
  have h2 : (pull8 (pull8 s).2).2.inv = true := pull8_inv (pull8_inv h)
  simpa only [pull16] using h2

theorem pullWidth_inv (w : Width) {s : State} (h : s.inv = true) : (pullWidth w s).2.inv = true := by
  cases w
  · exact pull8_inv h
  · exact pull16_inv h

theorem loadOperand_inv (o : Operand) (w : Width) {s : State} (h : s.inv = true) : (loadOperand o w s).2.inv = true :=
  State.inv_congr (by simp) (by simp) h

theorem read16_inv (ea : EA) {s : State} (h : s.inv = true) : (read16 ea s).2.inv = true :=
  State.inv_congr (by simp) (by simp) h

/-- Entering a handler keeps the invariant (R355). -/
theorem enter_inv (src : IntSource) (ret : Word) (b : Bool) {s : State} (h : s.inv = true) :
    (enter src ret b s).inv = true := by
  have h1 : (pushFrame ret b s).inv = true := by
    unfold pushFrame
    exact push8_inv _ (push16_inv _ (by split; exact h; exact push8_inv _ h))
  simp only [enter]
  have h2 := State.onRegs_inv (f := Regs.enterHandler) h1 fun h => h
  generalize (pushFrame ret b s).onRegs Regs.enterHandler = s1 at h2 ⊢
  have h3 := read16_inv (EA.b0 (vectorAddr src s1.regs.e)) h2
  generalize read16 (EA.b0 (vectorAddr src s1.regs.e)) s1 = v at h3 ⊢
  exact State.inv_congr (s := v.2.onRegs (Regs.jump v.1)) rfl rfl (State.onRegs_inv h3 fun h => h)

theorem returnFromInterrupt_inv {s : State} (h : s.inv = true) : (returnFromInterrupt s).inv = true := by
  simp only [returnFromInterrupt]
  have h1 := State.onRegs_inv (f := Regs.unpackP (pull8 s).1) (pull8_inv h) (Regs.unpackP_inv _)
  generalize (pull8 s).2.onRegs (Regs.unpackP (pull8 s).1) = s1 at h1 ⊢
  have h2 := pull16_inv h1
  generalize pull16 s1 = a at h2 ⊢
  have h3 := State.onRegs_inv (f := Regs.jump a.1) h2 fun h => h
  generalize a.2.onRegs (Regs.jump a.1) = s2 at h3 ⊢
  split
  · exact h3
  · exact State.onRegs_inv (pull8_inv h3) fun h => h

theorem resetSequence_inv {s : State} (h : s.mem.wf = true) : (resetSequence s).inv = true := by
  rw [State.inv_iff]
  refine ⟨?_, by simpa [resetSequence, drawWord, drawByte, drawBit] using h⟩
  simp only [resetSequence, State.onRegs_regs, Regs.jump_inv, read16_regs]
  exact resetRegs_inv _ _ _ _ _ _ _ _

end Sys2Proof.Machine
end

