-- ==== Sys2Proof/Laws/Matrix.lean ====
section
/-! SUPPORT. The matrix of R95 and the opcode lists of R96 agree: every entry builds exactly the instructions that the
lists give its opcode. -/

namespace Sys2Proof

/-- The entry of the matrix for an opcode builds instructions of that opcode, with the operand bytes of its format; mnemonic and mode
do not depend on the operand. -/
def Row.agrees (op : Byte) : Row → Prop
  | .f1 i => ∃ n d, i.coding = ⟨n, d, op, .none⟩ ∧ ∀ m x, i.wellFormed m x = true
  | .f2 k => ∃ n d, ∀ b, (k b).coding = ⟨n, d, op, .byte b⟩ ∧ ∀ m x, (k b).wellFormed m x = true
  | .f3 k => ∃ n d, ∀ a, (k a).coding = ⟨n, d, op, .word a⟩ ∧ ∀ m x, (k a).wellFormed m x = true
  | .f3b k => ∃ n d, ∀ b c, (k b c).coding = ⟨n, d, op, .banks b c⟩ ∧ ∀ m x, (k b c).wellFormed m x = true
  | .f4 k => ∃ n d, ∀ a, (k a).coding = ⟨n, d, op, .long a⟩ ∧ ∀ m x, (k a).wellFormed m x = true
  | .fm k => ∃ n d, ∀ v, (k v).coding = ⟨n, d, op, .immM v⟩ ∧ ∀ m x, (k v).wellFormed m x = fitsWidth m v
  | .fx k => ∃ n d, ∀ v, (k v).coding = ⟨n, d, op, .immX v⟩ ∧ ∀ m x, (k v).wellFormed m x = fitsWidth x v

theorem Row.agrees_of_eq {op : Byte} {r : Row} (h : opRow op = r) (ha : r.agrees op) : (opRow op).agrees op := h ▸ ha

theorem opRow_agrees_0 : ∀ n, n < 16 → (opRow (BitVec.ofNat 8 (0 + n))).agrees (BitVec.ofNat 8 (0 + n))
  | 0, _ => Row.agrees_of_eq (op := 0x00#8) (r := .f2 .brk) rfl ⟨_, _, fun _ => ⟨rfl, fun _ _ => rfl⟩⟩
  | 1, _ => Row.agrees_of_eq (op := 0x01#8) (r := .f2 .oraDpXInd) rfl ⟨_, _, fun _ => ⟨rfl, fun _ _ => rfl⟩⟩
  | 2, _ => Row.agrees_of_eq (op := 0x02#8) (r := .f2 .cop) rfl ⟨_, _, fun _ => ⟨rfl, fun _ _ => rfl⟩⟩
  | 3, _ => Row.agrees_of_eq (op := 0x03#8) (r := .f2 .oraSr) rfl ⟨_, _, fun _ => ⟨rfl, fun _ _ => rfl⟩⟩
  | 4, _ => Row.agrees_of_eq (op := 0x04#8) (r := .f2 .tsbDp) rfl ⟨_, _, fun _ => ⟨rfl, fun _ _ => rfl⟩⟩
  | 5, _ => Row.agrees_of_eq (op := 0x05#8) (r := .f2 .oraDp) rfl ⟨_, _, fun _ => ⟨rfl, fun _ _ => rfl⟩⟩
  | 6, _ => Row.agrees_of_eq (op := 0x06#8) (r := .f2 .aslDp) rfl ⟨_, _, fun _ => ⟨rfl, fun _ _ => rfl⟩⟩
  | 7, _ => Row.agrees_of_eq (op := 0x07#8) (r := .f2 .oraDpLongInd) rfl ⟨_, _, fun _ => ⟨rfl, fun _ _ => rfl⟩⟩
  | 8, _ => Row.agrees_of_eq (op := 0x08#8) (r := .f1 .php) rfl ⟨_, _, rfl, fun _ _ => rfl⟩
  | 9, _ => Row.agrees_of_eq (op := 0x09#8) (r := .fm .oraImm) rfl ⟨_, _, fun _ => ⟨rfl, fun _ _ => rfl⟩⟩
  | 10, _ => Row.agrees_of_eq (op := 0x0A#8) (r := .f1 .aslAcc) rfl ⟨_, _, rfl, fun _ _ => rfl⟩
  | 11, _ => Row.agrees_of_eq (op := 0x0B#8) (r := .f1 .phd) rfl ⟨_, _, rfl, fun _ _ => rfl⟩
  | 12, _ => Row.agrees_of_eq (op := 0x0C#8) (r := .f3 .tsbAbs) rfl ⟨_, _, fun _ => ⟨rfl, fun _ _ => rfl⟩⟩
  | 13, _ => Row.agrees_of_eq (op := 0x0D#8) (r := .f3 .oraAbs) rfl ⟨_, _, fun _ => ⟨rfl, fun _ _ => rfl⟩⟩
  | 14, _ => Row.agrees_of_eq (op := 0x0E#8) (r := .f3 .aslAbs) rfl ⟨_, _, fun _ => ⟨rfl, fun _ _ => rfl⟩⟩
  | 15, _ => Row.agrees_of_eq (op := 0x0F#8) (r := .f4 .oraLong) rfl ⟨_, _, fun _ => ⟨rfl, fun _ _ => rfl⟩⟩
  | n + 16, h => absurd h (by omega)

theorem opRow_agrees_1 : ∀ n, n < 16 → (opRow (BitVec.ofNat 8 (16 + n))).agrees (BitVec.ofNat 8 (16 + n))
  | 0, _ => Row.agrees_of_eq (op := 0x10#8) (r := .f2 .bpl) rfl ⟨_, _, fun _ => ⟨rfl, fun _ _ => rfl⟩⟩
  | 1, _ => Row.agrees_of_eq (op := 0x11#8) (r := .f2 .oraDpIndY) rfl ⟨_, _, fun _ => ⟨rfl, fun _ _ => rfl⟩⟩
  | 2, _ => Row.agrees_of_eq (op := 0x12#8) (r := .f2 .oraDpInd) rfl ⟨_, _, fun _ => ⟨rfl, fun _ _ => rfl⟩⟩
  | 3, _ => Row.agrees_of_eq (op := 0x13#8) (r := .f2 .oraSrIndY) rfl ⟨_, _, fun _ => ⟨rfl, fun _ _ => rfl⟩⟩
  | 4, _ => Row.agrees_of_eq (op := 0x14#8) (r := .f2 .trbDp) rfl ⟨_, _, fun _ => ⟨rfl, fun _ _ => rfl⟩⟩
  | 5, _ => Row.agrees_of_eq (op := 0x15#8) (r := .f2 .oraDpX) rfl ⟨_, _, fun _ => ⟨rfl, fun _ _ => rfl⟩⟩
  | 6, _ => Row.agrees_of_eq (op := 0x16#8) (r := .f2 .aslDpX) rfl ⟨_, _, fun _ => ⟨rfl, fun _ _ => rfl⟩⟩
  | 7, _ => Row.agrees_of_eq (op := 0x17#8) (r := .f2 .oraDpLongIndY) rfl ⟨_, _, fun _ => ⟨rfl, fun _ _ => rfl⟩⟩
  | 8, _ => Row.agrees_of_eq (op := 0x18#8) (r := .f1 .clc) rfl ⟨_, _, rfl, fun _ _ => rfl⟩
  | 9, _ => Row.agrees_of_eq (op := 0x19#8) (r := .f3 .oraAbsY) rfl ⟨_, _, fun _ => ⟨rfl, fun _ _ => rfl⟩⟩
  | 10, _ => Row.agrees_of_eq (op := 0x1A#8) (r := .f1 .incAcc) rfl ⟨_, _, rfl, fun _ _ => rfl⟩
  | 11, _ => Row.agrees_of_eq (op := 0x1B#8) (r := .f1 .tcs) rfl ⟨_, _, rfl, fun _ _ => rfl⟩
  | 12, _ => Row.agrees_of_eq (op := 0x1C#8) (r := .f3 .trbAbs) rfl ⟨_, _, fun _ => ⟨rfl, fun _ _ => rfl⟩⟩
  | 13, _ => Row.agrees_of_eq (op := 0x1D#8) (r := .f3 .oraAbsX) rfl ⟨_, _, fun _ => ⟨rfl, fun _ _ => rfl⟩⟩
  | 14, _ => Row.agrees_of_eq (op := 0x1E#8) (r := .f3 .aslAbsX) rfl ⟨_, _, fun _ => ⟨rfl, fun _ _ => rfl⟩⟩
  | 15, _ => Row.agrees_of_eq (op := 0x1F#8) (r := .f4 .oraLongX) rfl ⟨_, _, fun _ => ⟨rfl, fun _ _ => rfl⟩⟩
  | n + 16, h => absurd h (by omega)

theorem opRow_agrees_2 : ∀ n, n < 16 → (opRow (BitVec.ofNat 8 (32 + n))).agrees (BitVec.ofNat 8 (32 + n))
  | 0, _ => Row.agrees_of_eq (op := 0x20#8) (r := .f3 .jsrAbs) rfl ⟨_, _, fun _ => ⟨rfl, fun _ _ => rfl⟩⟩
  | 1, _ => Row.agrees_of_eq (op := 0x21#8) (r := .f2 .andDpXInd) rfl ⟨_, _, fun _ => ⟨rfl, fun _ _ => rfl⟩⟩
  | 2, _ => Row.agrees_of_eq (op := 0x22#8) (r := .f4 .jsl) rfl ⟨_, _, fun _ => ⟨rfl, fun _ _ => rfl⟩⟩
  | 3, _ => Row.agrees_of_eq (op := 0x23#8) (r := .f2 .andSr) rfl ⟨_, _, fun _ => ⟨rfl, fun _ _ => rfl⟩⟩
  | 4, _ => Row.agrees_of_eq (op := 0x24#8) (r := .f2 .bitDp) rfl ⟨_, _, fun _ => ⟨rfl, fun _ _ => rfl⟩⟩
  | 5, _ => Row.agrees_of_eq (op := 0x25#8) (r := .f2 .andDp) rfl ⟨_, _, fun _ => ⟨rfl, fun _ _ => rfl⟩⟩
  | 6, _ => Row.agrees_of_eq (op := 0x26#8) (r := .f2 .rolDp) rfl ⟨_, _, fun _ => ⟨rfl, fun _ _ => rfl⟩⟩
  | 7, _ => Row.agrees_of_eq (op := 0x27#8) (r := .f2 .andDpLongInd) rfl ⟨_, _, fun _ => ⟨rfl, fun _ _ => rfl⟩⟩
  | 8, _ => Row.agrees_of_eq (op := 0x28#8) (r := .f1 .plp) rfl ⟨_, _, rfl, fun _ _ => rfl⟩
  | 9, _ => Row.agrees_of_eq (op := 0x29#8) (r := .fm .andImm) rfl ⟨_, _, fun _ => ⟨rfl, fun _ _ => rfl⟩⟩
  | 10, _ => Row.agrees_of_eq (op := 0x2A#8) (r := .f1 .rolAcc) rfl ⟨_, _, rfl, fun _ _ => rfl⟩
  | 11, _ => Row.agrees_of_eq (op := 0x2B#8) (r := .f1 .pld) rfl ⟨_, _, rfl, fun _ _ => rfl⟩
  | 12, _ => Row.agrees_of_eq (op := 0x2C#8) (r := .f3 .bitAbs) rfl ⟨_, _, fun _ => ⟨rfl, fun _ _ => rfl⟩⟩
  | 13, _ => Row.agrees_of_eq (op := 0x2D#8) (r := .f3 .andAbs) rfl ⟨_, _, fun _ => ⟨rfl, fun _ _ => rfl⟩⟩
  | 14, _ => Row.agrees_of_eq (op := 0x2E#8) (r := .f3 .rolAbs) rfl ⟨_, _, fun _ => ⟨rfl, fun _ _ => rfl⟩⟩
  | 15, _ => Row.agrees_of_eq (op := 0x2F#8) (r := .f4 .andLong) rfl ⟨_, _, fun _ => ⟨rfl, fun _ _ => rfl⟩⟩
  | n + 16, h => absurd h (by omega)

theorem opRow_agrees_3 : ∀ n, n < 16 → (opRow (BitVec.ofNat 8 (48 + n))).agrees (BitVec.ofNat 8 (48 + n))
  | 0, _ => Row.agrees_of_eq (op := 0x30#8) (r := .f2 .bmi) rfl ⟨_, _, fun _ => ⟨rfl, fun _ _ => rfl⟩⟩
  | 1, _ => Row.agrees_of_eq (op := 0x31#8) (r := .f2 .andDpIndY) rfl ⟨_, _, fun _ => ⟨rfl, fun _ _ => rfl⟩⟩
  | 2, _ => Row.agrees_of_eq (op := 0x32#8) (r := .f2 .andDpInd) rfl ⟨_, _, fun _ => ⟨rfl, fun _ _ => rfl⟩⟩
  | 3, _ => Row.agrees_of_eq (op := 0x33#8) (r := .f2 .andSrIndY) rfl ⟨_, _, fun _ => ⟨rfl, fun _ _ => rfl⟩⟩
  | 4, _ => Row.agrees_of_eq (op := 0x34#8) (r := .f2 .bitDpX) rfl ⟨_, _, fun _ => ⟨rfl, fun _ _ => rfl⟩⟩
  | 5, _ => Row.agrees_of_eq (op := 0x35#8) (r := .f2 .andDpX) rfl ⟨_, _, fun _ => ⟨rfl, fun _ _ => rfl⟩⟩
  | 6, _ => Row.agrees_of_eq (op := 0x36#8) (r := .f2 .rolDpX) rfl ⟨_, _, fun _ => ⟨rfl, fun _ _ => rfl⟩⟩
  | 7, _ => Row.agrees_of_eq (op := 0x37#8) (r := .f2 .andDpLongIndY) rfl ⟨_, _, fun _ => ⟨rfl, fun _ _ => rfl⟩⟩
  | 8, _ => Row.agrees_of_eq (op := 0x38#8) (r := .f1 .sec) rfl ⟨_, _, rfl, fun _ _ => rfl⟩
  | 9, _ => Row.agrees_of_eq (op := 0x39#8) (r := .f3 .andAbsY) rfl ⟨_, _, fun _ => ⟨rfl, fun _ _ => rfl⟩⟩
  | 10, _ => Row.agrees_of_eq (op := 0x3A#8) (r := .f1 .decAcc) rfl ⟨_, _, rfl, fun _ _ => rfl⟩
  | 11, _ => Row.agrees_of_eq (op := 0x3B#8) (r := .f1 .tsc) rfl ⟨_, _, rfl, fun _ _ => rfl⟩
  | 12, _ => Row.agrees_of_eq (op := 0x3C#8) (r := .f3 .bitAbsX) rfl ⟨_, _, fun _ => ⟨rfl, fun _ _ => rfl⟩⟩
  | 13, _ => Row.agrees_of_eq (op := 0x3D#8) (r := .f3 .andAbsX) rfl ⟨_, _, fun _ => ⟨rfl, fun _ _ => rfl⟩⟩
  | 14, _ => Row.agrees_of_eq (op := 0x3E#8) (r := .f3 .rolAbsX) rfl ⟨_, _, fun _ => ⟨rfl, fun _ _ => rfl⟩⟩
  | 15, _ => Row.agrees_of_eq (op := 0x3F#8) (r := .f4 .andLongX) rfl ⟨_, _, fun _ => ⟨rfl, fun _ _ => rfl⟩⟩
  | n + 16, h => absurd h (by omega)

theorem opRow_agrees_4 : ∀ n, n < 16 → (opRow (BitVec.ofNat 8 (64 + n))).agrees (BitVec.ofNat 8 (64 + n))
  | 0, _ => Row.agrees_of_eq (op := 0x40#8) (r := .f1 .rti) rfl ⟨_, _, rfl, fun _ _ => rfl⟩
  | 1, _ => Row.agrees_of_eq (op := 0x41#8) (r := .f2 .eorDpXInd) rfl ⟨_, _, fun _ => ⟨rfl, fun _ _ => rfl⟩⟩
  | 2, _ => Row.agrees_of_eq (op := 0x42#8) (r := .f2 .wdm) rfl ⟨_, _, fun _ => ⟨rfl, fun _ _ => rfl⟩⟩
  | 3, _ => Row.agrees_of_eq (op := 0x43#8) (r := .f2 .eorSr) rfl ⟨_, _, fun _ => ⟨rfl, fun _ _ => rfl⟩⟩
  | 4, _ => Row.agrees_of_eq (op := 0x44#8) (r := .f3b .mvp) rfl ⟨_, _, fun _ _ => ⟨rfl, fun _ _ => rfl⟩⟩
  | 5, _ => Row.agrees_of_eq (op := 0x45#8) (r := .f2 .eorDp) rfl ⟨_, _, fun _ => ⟨rfl, fun _ _ => rfl⟩⟩
  | 6, _ => Row.agrees_of_eq (op := 0x46#8) (r := .f2 .lsrDp) rfl ⟨_, _, fun _ => ⟨rfl, fun _ _ => rfl⟩⟩
  | 7, _ => Row.agrees_of_eq (op := 0x47#8) (r := .f2 .eorDpLongInd) rfl ⟨_, _, fun _ => ⟨rfl, fun _ _ => rfl⟩⟩
  | 8, _ => Row.agrees_of_eq (op := 0x48#8) (r := .f1 .pha) rfl ⟨_, _, rfl, fun _ _ => rfl⟩
  | 9, _ => Row.agrees_of_eq (op := 0x49#8) (r := .fm .eorImm) rfl ⟨_, _, fun _ => ⟨rfl, fun _ _ => rfl⟩⟩
  | 10, _ => Row.agrees_of_eq (op := 0x4A#8) (r := .f1 .lsrAcc) rfl ⟨_, _, rfl, fun _ _ => rfl⟩
  | 11, _ => Row.agrees_of_eq (op := 0x4B#8) (r := .f1 .phk) rfl ⟨_, _, rfl, fun _ _ => rfl⟩
  | 12, _ => Row.agrees_of_eq (op := 0x4C#8) (r := .f3 .jmpAbs) rfl ⟨_, _, fun _ => ⟨rfl, fun _ _ => rfl⟩⟩
  | 13, _ => Row.agrees_of_eq (op := 0x4D#8) (r := .f3 .eorAbs) rfl ⟨_, _, fun _ => ⟨rfl, fun _ _ => rfl⟩⟩
  | 14, _ => Row.agrees_of_eq (op := 0x4E#8) (r := .f3 .lsrAbs) rfl ⟨_, _, fun _ => ⟨rfl, fun _ _ => rfl⟩⟩
  | 15, _ => Row.agrees_of_eq (op := 0x4F#8) (r := .f4 .eorLong) rfl ⟨_, _, fun _ => ⟨rfl, fun _ _ => rfl⟩⟩
  | n + 16, h => absurd h (by omega)

theorem opRow_agrees_5 : ∀ n, n < 16 → (opRow (BitVec.ofNat 8 (80 + n))).agrees (BitVec.ofNat 8 (80 + n))
  | 0, _ => Row.agrees_of_eq (op := 0x50#8) (r := .f2 .bvc) rfl ⟨_, _, fun _ => ⟨rfl, fun _ _ => rfl⟩⟩
  | 1, _ => Row.agrees_of_eq (op := 0x51#8) (r := .f2 .eorDpIndY) rfl ⟨_, _, fun _ => ⟨rfl, fun _ _ => rfl⟩⟩
  | 2, _ => Row.agrees_of_eq (op := 0x52#8) (r := .f2 .eorDpInd) rfl ⟨_, _, fun _ => ⟨rfl, fun _ _ => rfl⟩⟩
  | 3, _ => Row.agrees_of_eq (op := 0x53#8) (r := .f2 .eorSrIndY) rfl ⟨_, _, fun _ => ⟨rfl, fun _ _ => rfl⟩⟩
  | 4, _ => Row.agrees_of_eq (op := 0x54#8) (r := .f3b .mvn) rfl ⟨_, _, fun _ _ => ⟨rfl, fun _ _ => rfl⟩⟩
  | 5, _ => Row.agrees_of_eq (op := 0x55#8) (r := .f2 .eorDpX) rfl ⟨_, _, fun _ => ⟨rfl, fun _ _ => rfl⟩⟩
  | 6, _ => Row.agrees_of_eq (op := 0x56#8) (r := .f2 .lsrDpX) rfl ⟨_, _, fun _ => ⟨rfl, fun _ _ => rfl⟩⟩
  | 7, _ => Row.agrees_of_eq (op := 0x57#8) (r := .f2 .eorDpLongIndY) rfl ⟨_, _, fun _ => ⟨rfl, fun _ _ => rfl⟩⟩
  | 8, _ => Row.agrees_of_eq (op := 0x58#8) (r := .f1 .cli) rfl ⟨_, _, rfl, fun _ _ => rfl⟩
  | 9, _ => Row.agrees_of_eq (op := 0x59#8) (r := .f3 .eorAbsY) rfl ⟨_, _, fun _ => ⟨rfl, fun _ _ => rfl⟩⟩
  | 10, _ => Row.agrees_of_eq (op := 0x5A#8) (r := .f1 .phy) rfl ⟨_, _, rfl, fun _ _ => rfl⟩
  | 11, _ => Row.agrees_of_eq (op := 0x5B#8) (r := .f1 .tcd) rfl ⟨_, _, rfl, fun _ _ => rfl⟩
  | 12, _ => Row.agrees_of_eq (op := 0x5C#8) (r := .f4 .jmpLong) rfl ⟨_, _, fun _ => ⟨rfl, fun _ _ => rfl⟩⟩
  | 13, _ => Row.agrees_of_eq (op := 0x5D#8) (r := .f3 .eorAbsX) rfl ⟨_, _, fun _ => ⟨rfl, fun _ _ => rfl⟩⟩
  | 14, _ => Row.agrees_of_eq (op := 0x5E#8) (r := .f3 .lsrAbsX) rfl ⟨_, _, fun _ => ⟨rfl, fun _ _ => rfl⟩⟩
  | 15, _ => Row.agrees_of_eq (op := 0x5F#8) (r := .f4 .eorLongX) rfl ⟨_, _, fun _ => ⟨rfl, fun _ _ => rfl⟩⟩
  | n + 16, h => absurd h (by omega)

theorem opRow_agrees_6 : ∀ n, n < 16 → (opRow (BitVec.ofNat 8 (96 + n))).agrees (BitVec.ofNat 8 (96 + n))
  | 0, _ => Row.agrees_of_eq (op := 0x60#8) (r := .f1 .rts) rfl ⟨_, _, rfl, fun _ _ => rfl⟩
  | 1, _ => Row.agrees_of_eq (op := 0x61#8) (r := .f2 .adcDpXInd) rfl ⟨_, _, fun _ => ⟨rfl, fun _ _ => rfl⟩⟩
  | 2, _ => Row.agrees_of_eq (op := 0x62#8) (r := .f3 .per) rfl ⟨_, _, fun _ => ⟨rfl, fun _ _ => rfl⟩⟩
  | 3, _ => Row.agrees_of_eq (op := 0x63#8) (r := .f2 .adcSr) rfl ⟨_, _, fun _ => ⟨rfl, fun _ _ => rfl⟩⟩
  | 4, _ => Row.agrees_of_eq (op := 0x64#8) (r := .f2 .stzDp) rfl ⟨_, _, fun _ => ⟨rfl, fun _ _ => rfl⟩⟩
  | 5, _ => Row.agrees_of_eq (op := 0x65#8) (r := .f2 .adcDp) rfl ⟨_, _, fun _ => ⟨rfl, fun _ _ => rfl⟩⟩
  | 6, _ => Row.agrees_of_eq (op := 0x66#8) (r := .f2 .rorDp) rfl ⟨_, _, fun _ => ⟨rfl, fun _ _ => rfl⟩⟩
  | 7, _ => Row.agrees_of_eq (op := 0x67#8) (r := .f2 .adcDpLongInd) rfl ⟨_, _, fun _ => ⟨rfl, fun _ _ => rfl⟩⟩
  | 8, _ => Row.agrees_of_eq (op := 0x68#8) (r := .f1 .pla) rfl ⟨_, _, rfl, fun _ _ => rfl⟩
  | 9, _ => Row.agrees_of_eq (op := 0x69#8) (r := .fm .adcImm) rfl ⟨_, _, fun _ => ⟨rfl, fun _ _ => rfl⟩⟩
  | 10, _ => Row.agrees_of_eq (op := 0x6A#8) (r := .f1 .rorAcc) rfl ⟨_, _, rfl, fun _ _ => rfl⟩
  | 11, _ => Row.agrees_of_eq (op := 0x6B#8) (r := .f1 .rtl) rfl ⟨_, _, rfl, fun _ _ => rfl⟩
  | 12, _ => Row.agrees_of_eq (op := 0x6C#8) (r := .f3 .jmpAbsInd) rfl ⟨_, _, fun _ => ⟨rfl, fun _ _ => rfl⟩⟩
  | 13, _ => Row.agrees_of_eq (op := 0x6D#8) (r := .f3 .adcAbs) rfl ⟨_, _, fun _ => ⟨rfl, fun _ _ => rfl⟩⟩
  | 14, _ => Row.agrees_of_eq (op := 0x6E#8) (r := .f3 .rorAbs) rfl ⟨_, _, fun _ => ⟨rfl, fun _ _ => rfl⟩⟩
  | 15, _ => Row.agrees_of_eq (op := 0x6F#8) (r := .f4 .adcLong) rfl ⟨_, _, fun _ => ⟨rfl, fun _ _ => rfl⟩⟩
  | n + 16, h => absurd h (by omega)

theorem opRow_agrees_7 : ∀ n, n < 16 → (opRow (BitVec.ofNat 8 (112 + n))).agrees (BitVec.ofNat 8 (112 + n))
  | 0, _ => Row.agrees_of_eq (op := 0x70#8) (r := .f2 .bvs) rfl ⟨_, _, fun _ => ⟨rfl, fun _ _ => rfl⟩⟩
  | 1, _ => Row.agrees_of_eq (op := 0x71#8) (r := .f2 .adcDpIndY) rfl ⟨_, _, fun _ => ⟨rfl, fun _ _ => rfl⟩⟩
  | 2, _ => Row.agrees_of_eq (op := 0x72#8) (r := .f2 .adcDpInd) rfl ⟨_, _, fun _ => ⟨rfl, fun _ _ => rfl⟩⟩
  | 3, _ => Row.agrees_of_eq (op := 0x73#8) (r := .f2 .adcSrIndY) rfl ⟨_, _, fun _ => ⟨rfl, fun _ _ => rfl⟩⟩
  | 4, _ => Row.agrees_of_eq (op := 0x74#8) (r := .f2 .stzDpX) rfl ⟨_, _, fun _ => ⟨rfl, fun _ _ => rfl⟩⟩
  | 5, _ => Row.agrees_of_eq (op := 0x75#8) (r := .f2 .adcDpX) rfl ⟨_, _, fun _ => ⟨rfl, fun _ _ => rfl⟩⟩
  | 6, _ => Row.agrees_of_eq (op := 0x76#8) (r := .f2 .rorDpX) rfl ⟨_, _, fun _ => ⟨rfl, fun _ _ => rfl⟩⟩
  | 7, _ => Row.agrees_of_eq (op := 0x77#8) (r := .f2 .adcDpLongIndY) rfl ⟨_, _, fun _ => ⟨rfl, fun _ _ => rfl⟩⟩
  | 8, _ => Row.agrees_of_eq (op := 0x78#8) (r := .f1 .sei) rfl ⟨_, _, rfl, fun _ _ => rfl⟩
  | 9, _ => Row.agrees_of_eq (op := 0x79#8) (r := .f3 .adcAbsY) rfl ⟨_, _, fun _ => ⟨rfl, fun _ _ => rfl⟩⟩
  | 10, _ => Row.agrees_of_eq (op := 0x7A#8) (r := .f1 .ply) rfl ⟨_, _, rfl, fun _ _ => rfl⟩
  | 11, _ => Row.agrees_of_eq (op := 0x7B#8) (r := .f1 .tdc) rfl ⟨_, _, rfl, fun _ _ => rfl⟩
  | 12, _ => Row.agrees_of_eq (op := 0x7C#8) (r := .f3 .jmpAbsXInd) rfl ⟨_, _, fun _ => ⟨rfl, fun _ _ => rfl⟩⟩
  | 13, _ => Row.agrees_of_eq (op := 0x7D#8) (r := .f3 .adcAbsX) rfl ⟨_, _, fun _ => ⟨rfl, fun _ _ => rfl⟩⟩
  | 14, _ => Row.agrees_of_eq (op := 0x7E#8) (r := .f3 .rorAbsX) rfl ⟨_, _, fun _ => ⟨rfl, fun _ _ => rfl⟩⟩
  | 15, _ => Row.agrees_of_eq (op := 0x7F#8) (r := .f4 .adcLongX) rfl ⟨_, _, fun _ => ⟨rfl, fun _ _ => rfl⟩⟩
  | n + 16, h => absurd h (by omega)

theorem opRow_agrees_8 : ∀ n, n < 16 → (opRow (BitVec.ofNat 8 (128 + n))).agrees (BitVec.ofNat 8 (128 + n))
  | 0, _ => Row.agrees_of_eq (op := 0x80#8) (r := .f2 .bra) rfl ⟨_, _, fun _ => ⟨rfl, fun _ _ => rfl⟩⟩
  | 1, _ => Row.agrees_of_eq (op := 0x81#8) (r := .f2 .staDpXInd) rfl ⟨_, _, fun _ => ⟨rfl, fun _ _ => rfl⟩⟩
  | 2, _ => Row.agrees_of_eq (op := 0x82#8) (r := .f3 .brl) rfl ⟨_, _, fun _ => ⟨rfl, fun _ _ => rfl⟩⟩
  | 3, _ => Row.agrees_of_eq (op := 0x83#8) (r := .f2 .staSr) rfl ⟨_, _, fun _ => ⟨rfl, fun _ _ => rfl⟩⟩
  | 4, _ => Row.agrees_of_eq (op := 0x84#8) (r := .f2 .styDp) rfl ⟨_, _, fun _ => ⟨rfl, fun _ _ => rfl⟩⟩
  | 5, _ => Row.agrees_of_eq (op := 0x85#8) (r := .f2 .staDp) rfl ⟨_, _, fun _ => ⟨rfl, fun _ _ => rfl⟩⟩
  | 6, _ => Row.agrees_of_eq (op := 0x86#8) (r := .f2 .stxDp) rfl ⟨_, _, fun _ => ⟨rfl, fun _ _ => rfl⟩⟩
  | 7, _ => Row.agrees_of_eq (op := 0x87#8) (r := .f2 .staDpLongInd) rfl ⟨_, _, fun _ => ⟨rfl, fun _ _ => rfl⟩⟩
  | 8, _ => Row.agrees_of_eq (op := 0x88#8) (r := .f1 .dey) rfl ⟨_, _, rfl, fun _ _ => rfl⟩
  | 9, _ => Row.agrees_of_eq (op := 0x89#8) (r := .fm .bitImm) rfl ⟨_, _, fun _ => ⟨rfl, fun _ _ => rfl⟩⟩
  | 10, _ => Row.agrees_of_eq (op := 0x8A#8) (r := .f1 .txa) rfl ⟨_, _, rfl, fun _ _ => rfl⟩
  | 11, _ => Row.agrees_of_eq (op := 0x8B#8) (r := .f1 .phb) rfl ⟨_, _, rfl, fun _ _ => rfl⟩
  | 12, _ => Row.agrees_of_eq (op := 0x8C#8) (r := .f3 .styAbs) rfl ⟨_, _, fun _ => ⟨rfl, fun _ _ => rfl⟩⟩
  | 13, _ => Row.agrees_of_eq (op := 0x8D#8) (r := .f3 .staAbs) rfl ⟨_, _, fun _ => ⟨rfl, fun _ _ => rfl⟩⟩
  | 14, _ => Row.agrees_of_eq (op := 0x8E#8) (r := .f3 .stxAbs) rfl ⟨_, _, fun _ => ⟨rfl, fun _ _ => rfl⟩⟩
  | 15, _ => Row.agrees_of_eq (op := 0x8F#8) (r := .f4 .staLong) rfl ⟨_, _, fun _ => ⟨rfl, fun _ _ => rfl⟩⟩
  | n + 16, h => absurd h (by omega)

theorem opRow_agrees_9 : ∀ n, n < 16 → (opRow (BitVec.ofNat 8 (144 + n))).agrees (BitVec.ofNat 8 (144 + n))
  | 0, _ => Row.agrees_of_eq (op := 0x90#8) (r := .f2 .bcc) rfl ⟨_, _, fun _ => ⟨rfl, fun _ _ => rfl⟩⟩
  | 1, _ => Row.agrees_of_eq (op := 0x91#8) (r := .f2 .staDpIndY) rfl ⟨_, _, fun _ => ⟨rfl, fun _ _ => rfl⟩⟩
  | 2, _ => Row.agrees_of_eq (op := 0x92#8) (r := .f2 .staDpInd) rfl ⟨_, _, fun _ => ⟨rfl, fun _ _ => rfl⟩⟩
  | 3, _ => Row.agrees_of_eq (op := 0x93#8) (r := .f2 .staSrIndY) rfl ⟨_, _, fun _ => ⟨rfl, fun _ _ => rfl⟩⟩
  | 4, _ => Row.agrees_of_eq (op := 0x94#8) (r := .f2 .styDpX) rfl ⟨_, _, fun _ => ⟨rfl, fun _ _ => rfl⟩⟩
  | 5, _ => Row.agrees_of_eq (op := 0x95#8) (r := .f2 .staDpX) rfl ⟨_, _, fun _ => ⟨rfl, fun _ _ => rfl⟩⟩
  | 6, _ => Row.agrees_of_eq (op := 0x96#8) (r := .f2 .stxDpY) rfl ⟨_, _, fun _ => ⟨rfl, fun _ _ => rfl⟩⟩
  | 7, _ => Row.agrees_of_eq (op := 0x97#8) (r := .f2 .staDpLongIndY) rfl ⟨_, _, fun _ => ⟨rfl, fun _ _ => rfl⟩⟩
  | 8, _ => Row.agrees_of_eq (op := 0x98#8) (r := .f1 .tya) rfl ⟨_, _, rfl, fun _ _ => rfl⟩
  | 9, _ => Row.agrees_of_eq (op := 0x99#8) (r := .f3 .staAbsY) rfl ⟨_, _, fun _ => ⟨rfl, fun _ _ => rfl⟩⟩
  | 10, _ => Row.agrees_of_eq (op := 0x9A#8) (r := .f1 .txs) rfl ⟨_, _, rfl, fun _ _ => rfl⟩
  | 11, _ => Row.agrees_of_eq (op := 0x9B#8) (r := .f1 .txy) rfl ⟨_, _, rfl, fun _ _ => rfl⟩
  | 12, _ => Row.agrees_of_eq (op := 0x9C#8) (r := .f3 .stzAbs) rfl ⟨_, _, fun _ => ⟨rfl, fun _ _ => rfl⟩⟩
  | 13, _ => Row.agrees_of_eq (op := 0x9D#8) (r := .f3 .staAbsX) rfl ⟨_, _, fun _ => ⟨rfl, fun _ _ => rfl⟩⟩
  | 14, _ => Row.agrees_of_eq (op := 0x9E#8) (r := .f3 .stzAbsX) rfl ⟨_, _, fun _ => ⟨rfl, fun _ _ => rfl⟩⟩
  | 15, _ => Row.agrees_of_eq (op := 0x9F#8) (r := .f4 .staLongX) rfl ⟨_, _, fun _ => ⟨rfl, fun _ _ => rfl⟩⟩
  | n + 16, h => absurd h (by omega)

theorem opRow_agrees_A : ∀ n, n < 16 → (opRow (BitVec.ofNat 8 (160 + n))).agrees (BitVec.ofNat 8 (160 + n))
  | 0, _ => Row.agrees_of_eq (op := 0xA0#8) (r := .fx .ldyImm) rfl ⟨_, _, fun _ => ⟨rfl, fun _ _ => rfl⟩⟩
  | 1, _ => Row.agrees_of_eq (op := 0xA1#8) (r := .f2 .ldaDpXInd) rfl ⟨_, _, fun _ => ⟨rfl, fun _ _ => rfl⟩⟩
  | 2, _ => Row.agrees_of_eq (op := 0xA2#8) (r := .fx .ldxImm) rfl ⟨_, _, fun _ => ⟨rfl, fun _ _ => rfl⟩⟩
  | 3, _ => Row.agrees_of_eq (op := 0xA3#8) (r := .f2 .ldaSr) rfl ⟨_, _, fun _ => ⟨rfl, fun _ _ => rfl⟩⟩
  | 4, _ => Row.agrees_of_eq (op := 0xA4#8) (r := .f2 .ldyDp) rfl ⟨_, _, fun _ => ⟨rfl, fun _ _ => rfl⟩⟩
  | 5, _ => Row.agrees_of_eq (op := 0xA5#8) (r := .f2 .ldaDp) rfl ⟨_, _, fun _ => ⟨rfl, fun _ _ => rfl⟩⟩
  | 6, _ => Row.agrees_of_eq (op := 0xA6#8) (r := .f2 .ldxDp) rfl ⟨_, _, fun _ => ⟨rfl, fun _ _ => rfl⟩⟩
  | 7, _ => Row.agrees_of_eq (op := 0xA7#8) (r := .f2 .ldaDpLongInd) rfl ⟨_, _, fun _ => ⟨rfl, fun _ _ => rfl⟩⟩
  | 8, _ => Row.agrees_of_eq (op := 0xA8#8) (r := .f1 .tay) rfl ⟨_, _, rfl, fun _ _ => rfl⟩
  | 9, _ => Row.agrees_of_eq (op := 0xA9#8) (r := .fm .ldaImm) rfl ⟨_, _, fun _ => ⟨rfl, fun _ _ => rfl⟩⟩
  | 10, _ => Row.agrees_of_eq (op := 0xAA#8) (r := .f1 .tax) rfl ⟨_, _, rfl, fun _ _ => rfl⟩
  | 11, _ => Row.agrees_of_eq (op := 0xAB#8) (r := .f1 .plb) rfl ⟨_, _, rfl, fun _ _ => rfl⟩
  | 12, _ => Row.agrees_of_eq (op := 0xAC#8) (r := .f3 .ldyAbs) rfl ⟨_, _, fun _ => ⟨rfl, fun _ _ => rfl⟩⟩
  | 13, _ => Row.agrees_of_eq (op := 0xAD#8) (r := .f3 .ldaAbs) rfl ⟨_, _, fun _ => ⟨rfl, fun _ _ => rfl⟩⟩
  | 14, _ => Row.agrees_of_eq (op := 0xAE#8) (r := .f3 .ldxAbs) rfl ⟨_, _, fun _ => ⟨rfl, fun _ _ => rfl⟩⟩
  | 15, _ => Row.agrees_of_eq (op := 0xAF#8) (r := .f4 .ldaLong) rfl ⟨_, _, fun _ => ⟨rfl, fun _ _ => rfl⟩⟩
  | n + 16, h => absurd h (by omega)

theorem opRow_agrees_B : ∀ n, n < 16 → (opRow (BitVec.ofNat 8 (176 + n))).agrees (BitVec.ofNat 8 (176 + n))
  | 0, _ => Row.agrees_of_eq (op := 0xB0#8) (r := .f2 .bcs) rfl ⟨_, _, fun _ => ⟨rfl, fun _ _ => rfl⟩⟩
  | 1, _ => Row.agrees_of_eq (op := 0xB1#8) (r := .f2 .ldaDpIndY) rfl ⟨_, _, fun _ => ⟨rfl, fun _ _ => rfl⟩⟩
  | 2, _ => Row.agrees_of_eq (op := 0xB2#8) (r := .f2 .ldaDpInd) rfl ⟨_, _, fun _ => ⟨rfl, fun _ _ => rfl⟩⟩
  | 3, _ => Row.agrees_of_eq (op := 0xB3#8) (r := .f2 .ldaSrIndY) rfl ⟨_, _, fun _ => ⟨rfl, fun _ _ => rfl⟩⟩
  | 4, _ => Row.agrees_of_eq (op := 0xB4#8) (r := .f2 .ldyDpX) rfl ⟨_, _, fun _ => ⟨rfl, fun _ _ => rfl⟩⟩
  | 5, _ => Row.agrees_of_eq (op := 0xB5#8) (r := .f2 .ldaDpX) rfl ⟨_, _, fun _ => ⟨rfl, fun _ _ => rfl⟩⟩
  | 6, _ => Row.agrees_of_eq (op := 0xB6#8) (r := .f2 .ldxDpY) rfl ⟨_, _, fun _ => ⟨rfl, fun _ _ => rfl⟩⟩
  | 7, _ => Row.agrees_of_eq (op := 0xB7#8) (r := .f2 .ldaDpLongIndY) rfl ⟨_, _, fun _ => ⟨rfl, fun _ _ => rfl⟩⟩
  | 8, _ => Row.agrees_of_eq (op := 0xB8#8) (r := .f1 .clv) rfl ⟨_, _, rfl, fun _ _ => rfl⟩
  | 9, _ => Row.agrees_of_eq (op := 0xB9#8) (r := .f3 .ldaAbsY) rfl ⟨_, _, fun _ => ⟨rfl, fun _ _ => rfl⟩⟩
  | 10, _ => Row.agrees_of_eq (op := 0xBA#8) (r := .f1 .tsx) rfl ⟨_, _, rfl, fun _ _ => rfl⟩
  | 11, _ => Row.agrees_of_eq (op := 0xBB#8) (r := .f1 .tyx) rfl ⟨_, _, rfl, fun _ _ => rfl⟩
  | 12, _ => Row.agrees_of_eq (op := 0xBC#8) (r := .f3 .ldyAbsX) rfl ⟨_, _, fun _ => ⟨rfl, fun _ _ => rfl⟩⟩
  | 13, _ => Row.agrees_of_eq (op := 0xBD#8) (r := .f3 .ldaAbsX) rfl ⟨_, _, fun _ => ⟨rfl, fun _ _ => rfl⟩⟩
  | 14, _ => Row.agrees_of_eq (op := 0xBE#8) (r := .f3 .ldxAbsY) rfl ⟨_, _, fun _ => ⟨rfl, fun _ _ => rfl⟩⟩
  | 15, _ => Row.agrees_of_eq (op := 0xBF#8) (r := .f4 .ldaLongX) rfl ⟨_, _, fun _ => ⟨rfl, fun _ _ => rfl⟩⟩
  | n + 16, h => absurd h (by omega)

theorem opRow_agrees_C : ∀ n, n < 16 → (opRow (BitVec.ofNat 8 (192 + n))).agrees (BitVec.ofNat 8 (192 + n))
  | 0, _ => Row.agrees_of_eq (op := 0xC0#8) (r := .fx .cpyImm) rfl ⟨_, _, fun _ => ⟨rfl, fun _ _ => rfl⟩⟩
  | 1, _ => Row.agrees_of_eq (op := 0xC1#8) (r := .f2 .cmpDpXInd) rfl ⟨_, _, fun _ => ⟨rfl, fun _ _ => rfl⟩⟩
  | 2, _ => Row.agrees_of_eq (op := 0xC2#8) (r := .f2 .rep) rfl ⟨_, _, fun _ => ⟨rfl, fun _ _ => rfl⟩⟩
  | 3, _ => Row.agrees_of_eq (op := 0xC3#8) (r := .f2 .cmpSr) rfl ⟨_, _, fun _ => ⟨rfl, fun _ _ => rfl⟩⟩
  | 4, _ => Row.agrees_of_eq (op := 0xC4#8) (r := .f2 .cpyDp) rfl ⟨_, _, fun _ => ⟨rfl, fun _ _ => rfl⟩⟩
  | 5, _ => Row.agrees_of_eq (op := 0xC5#8) (r := .f2 .cmpDp) rfl ⟨_, _, fun _ => ⟨rfl, fun _ _ => rfl⟩⟩
  | 6, _ => Row.agrees_of_eq (op := 0xC6#8) (r := .f2 .decDp) rfl ⟨_, _, fun _ => ⟨rfl, fun _ _ => rfl⟩⟩
  | 7, _ => Row.agrees_of_eq (op := 0xC7#8) (r := .f2 .cmpDpLongInd) rfl ⟨_, _, fun _ => ⟨rfl, fun _ _ => rfl⟩⟩
  | 8, _ => Row.agrees_of_eq (op := 0xC8#8) (r := .f1 .iny) rfl ⟨_, _, rfl, fun _ _ => rfl⟩
  | 9, _ => Row.agrees_of_eq (op := 0xC9#8) (r := .fm .cmpImm) rfl ⟨_, _, fun _ => ⟨rfl, fun _ _ => rfl⟩⟩
  | 10, _ => Row.agrees_of_eq (op := 0xCA#8) (r := .f1 .dex) rfl ⟨_, _, rfl, fun _ _ => rfl⟩
  | 11, _ => Row.agrees_of_eq (op := 0xCB#8) (r := .f1 .wai) rfl ⟨_, _, rfl, fun _ _ => rfl⟩
  | 12, _ => Row.agrees_of_eq (op := 0xCC#8) (r := .f3 .cpyAbs) rfl ⟨_, _, fun _ => ⟨rfl, fun _ _ => rfl⟩⟩
  | 13, _ => Row.agrees_of_eq (op := 0xCD#8) (r := .f3 .cmpAbs) rfl ⟨_, _, fun _ => ⟨rfl, fun _ _ => rfl⟩⟩
  | 14, _ => Row.agrees_of_eq (op := 0xCE#8) (r := .f3 .decAbs) rfl ⟨_, _, fun _ => ⟨rfl, fun _ _ => rfl⟩⟩
  | 15, _ => Row.agrees_of_eq (op := 0xCF#8) (r := .f4 .cmpLong) rfl ⟨_, _, fun _ => ⟨rfl, fun _ _ => rfl⟩⟩
  | n + 16, h => absurd h (by omega)

theorem opRow_agrees_D : ∀ n, n < 16 → (opRow (BitVec.ofNat 8 (208 + n))).agrees (BitVec.ofNat 8 (208 + n))
  | 0, _ => Row.agrees_of_eq (op := 0xD0#8) (r := .f2 .bne) rfl ⟨_, _, fun _ => ⟨rfl, fun _ _ => rfl⟩⟩
  | 1, _ => Row.agrees_of_eq (op := 0xD1#8) (r := .f2 .cmpDpIndY) rfl ⟨_, _, fun _ => ⟨rfl, fun _ _ => rfl⟩⟩
  | 2, _ => Row.agrees_of_eq (op := 0xD2#8) (r := .f2 .cmpDpInd) rfl ⟨_, _, fun _ => ⟨rfl, fun _ _ => rfl⟩⟩
  | 3, _ => Row.agrees_of_eq (op := 0xD3#8) (r := .f2 .cmpSrIndY) rfl ⟨_, _, fun _ => ⟨rfl, fun _ _ => rfl⟩⟩
  | 4, _ => Row.agrees_of_eq (op := 0xD4#8) (r := .f2 .pei) rfl ⟨_, _, fun _ => ⟨rfl, fun _ _ => rfl⟩⟩
  | 5, _ => Row.agrees_of_eq (op := 0xD5#8) (r := .f2 .cmpDpX) rfl ⟨_, _, fun _ => ⟨rfl, fun _ _ => rfl⟩⟩
  | 6, _ => Row.agrees_of_eq (op := 0xD6#8) (r := .f2 .decDpX) rfl ⟨_, _, fun _ => ⟨rfl, fun _ _ => rfl⟩⟩
  | 7, _ => Row.agrees_of_eq (op := 0xD7#8) (r := .f2 .cmpDpLongIndY) rfl ⟨_, _, fun _ => ⟨rfl, fun _ _ => rfl⟩⟩
  | 8, _ => Row.agrees_of_eq (op := 0xD8#8) (r := .f1 .cld) rfl ⟨_, _, rfl, fun _ _ => rfl⟩
  | 9, _ => Row.agrees_of_eq (op := 0xD9#8) (r := .f3 .cmpAbsY) rfl ⟨_, _, fun _ => ⟨rfl, fun _ _ => rfl⟩⟩
  | 10, _ => Row.agrees_of_eq (op := 0xDA#8) (r := .f1 .phx) rfl ⟨_, _, rfl, fun _ _ => rfl⟩
  | 11, _ => Row.agrees_of_eq (op := 0xDB#8) (r := .f1 .stp) rfl ⟨_, _, rfl, fun _ _ => rfl⟩
  | 12, _ => Row.agrees_of_eq (op := 0xDC#8) (r := .f3 .jml) rfl ⟨_, _, fun _ => ⟨rfl, fun _ _ => rfl⟩⟩
  | 13, _ => Row.agrees_of_eq (op := 0xDD#8) (r := .f3 .cmpAbsX) rfl ⟨_, _, fun _ => ⟨rfl, fun _ _ => rfl⟩⟩
  | 14, _ => Row.agrees_of_eq (op := 0xDE#8) (r := .f3 .decAbsX) rfl ⟨_, _, fun _ => ⟨rfl, fun _ _ => rfl⟩⟩
  | 15, _ => Row.agrees_of_eq (op := 0xDF#8) (r := .f4 .cmpLongX) rfl ⟨_, _, fun _ => ⟨rfl, fun _ _ => rfl⟩⟩
  | n + 16, h => absurd h (by omega)

theorem opRow_agrees_E : ∀ n, n < 16 → (opRow (BitVec.ofNat 8 (224 + n))).agrees (BitVec.ofNat 8 (224 + n))
  | 0, _ => Row.agrees_of_eq (op := 0xE0#8) (r := .fx .cpxImm) rfl ⟨_, _, fun _ => ⟨rfl, fun _ _ => rfl⟩⟩
  | 1, _ => Row.agrees_of_eq (op := 0xE1#8) (r := .f2 .sbcDpXInd) rfl ⟨_, _, fun _ => ⟨rfl, fun _ _ => rfl⟩⟩
  | 2, _ => Row.agrees_of_eq (op := 0xE2#8) (r := .f2 .sep) rfl ⟨_, _, fun _ => ⟨rfl, fun _ _ => rfl⟩⟩
  | 3, _ => Row.agrees_of_eq (op := 0xE3#8) (r := .f2 .sbcSr) rfl ⟨_, _, fun _ => ⟨rfl, fun _ _ => rfl⟩⟩
  | 4, _ => Row.agrees_of_eq (op := 0xE4#8) (r := .f2 .cpxDp) rfl ⟨_, _, fun _ => ⟨rfl, fun _ _ => rfl⟩⟩
  | 5, _ => Row.agrees_of_eq (op := 0xE5#8) (r := .f2 .sbcDp) rfl ⟨_, _, fun _ => ⟨rfl, fun _ _ => rfl⟩⟩
  | 6, _ => Row.agrees_of_eq (op := 0xE6#8) (r := .f2 .incDp) rfl ⟨_, _, fun _ => ⟨rfl, fun _ _ => rfl⟩⟩
  | 7, _ => Row.agrees_of_eq (op := 0xE7#8) (r := .f2 .sbcDpLongInd) rfl ⟨_, _, fun _ => ⟨rfl, fun _ _ => rfl⟩⟩
  | 8, _ => Row.agrees_of_eq (op := 0xE8#8) (r := .f1 .inx) rfl ⟨_, _, rfl, fun _ _ => rfl⟩
  | 9, _ => Row.agrees_of_eq (op := 0xE9#8) (r := .fm .sbcImm) rfl ⟨_, _, fun _ => ⟨rfl, fun _ _ => rfl⟩⟩
  | 10, _ => Row.agrees_of_eq (op := 0xEA#8) (r := .f1 .nop) rfl ⟨_, _, rfl, fun _ _ => rfl⟩
  | 11, _ => Row.agrees_of_eq (op := 0xEB#8) (r := .f1 .xba) rfl ⟨_, _, rfl, fun _ _ => rfl⟩
  | 12, _ => Row.agrees_of_eq (op := 0xEC#8) (r := .f3 .cpxAbs) rfl ⟨_, _, fun _ => ⟨rfl, fun _ _ => rfl⟩⟩
  | 13, _ => Row.agrees_of_eq (op := 0xED#8) (r := .f3 .sbcAbs) rfl ⟨_, _, fun _ => ⟨rfl, fun _ _ => rfl⟩⟩
  | 14, _ => Row.agrees_of_eq (op := 0xEE#8) (r := .f3 .incAbs) rfl ⟨_, _, fun _ => ⟨rfl, fun _ _ => rfl⟩⟩
  | 15, _ => Row.agrees_of_eq (op := 0xEF#8) (r := .f4 .sbcLong) rfl ⟨_, _, fun _ => ⟨rfl, fun _ _ => rfl⟩⟩
  | n + 16, h => absurd h (by omega)

theorem opRow_agrees_F : ∀ n, n < 16 → (opRow (BitVec.ofNat 8 (240 + n))).agrees (BitVec.ofNat 8 (240 + n))
  | 0, _ => Row.agrees_of_eq (op := 0xF0#8) (r := .f2 .beq) rfl ⟨_, _, fun _ => ⟨rfl, fun _ _ => rfl⟩⟩
  | 1, _ => Row.agrees_of_eq (op := 0xF1#8) (r := .f2 .sbcDpIndY) rfl ⟨_, _, fun _ => ⟨rfl, fun _ _ => rfl⟩⟩
  | 2, _ => Row.agrees_of_eq (op := 0xF2#8) (r := .f2 .sbcDpInd) rfl ⟨_, _, fun _ => ⟨rfl, fun _ _ => rfl⟩⟩
  | 3, _ => Row.agrees_of_eq (op := 0xF3#8) (r := .f2 .sbcSrIndY) rfl ⟨_, _, fun _ => ⟨rfl, fun _ _ => rfl⟩⟩
  | 4, _ => Row.agrees_of_eq (op := 0xF4#8) (r := .f3 .pea) rfl ⟨_, _, fun _ => ⟨rfl, fun _ _ => rfl⟩⟩
  | 5, _ => Row.agrees_of_eq (op := 0xF5#8) (r := .f2 .sbcDpX) rfl ⟨_, _, fun _ => ⟨rfl, fun _ _ => rfl⟩⟩
  | 6, _ => Row.agrees_of_eq (op := 0xF6#8) (r := .f2 .incDpX) rfl ⟨_, _, fun _ => ⟨rfl, fun _ _ => rfl⟩⟩
  | 7, _ => Row.agrees_of_eq (op := 0xF7#8) (r := .f2 .sbcDpLongIndY) rfl ⟨_, _, fun _ => ⟨rfl, fun _ _ => rfl⟩⟩
  | 8, _ => Row.agrees_of_eq (op := 0xF8#8) (r := .f1 .sed) rfl ⟨_, _, rfl, fun _ _ => rfl⟩
  | 9, _ => Row.agrees_of_eq (op := 0xF9#8) (r := .f3 .sbcAbsY) rfl ⟨_, _, fun _ => ⟨rfl, fun _ _ => rfl⟩⟩
  | 10, _ => Row.agrees_of_eq (op := 0xFA#8) (r := .f1 .plx) rfl ⟨_, _, rfl, fun _ _ => rfl⟩
  | 11, _ => Row.agrees_of_eq (op := 0xFB#8) (r := .f1 .xce) rfl ⟨_, _, rfl, fun _ _ => rfl⟩
  | 12, _ => Row.agrees_of_eq (op := 0xFC#8) (r := .f3 .jsrAbsXInd) rfl ⟨_, _, fun _ => ⟨rfl, fun _ _ => rfl⟩⟩
  | 13, _ => Row.agrees_of_eq (op := 0xFD#8) (r := .f3 .sbcAbsX) rfl ⟨_, _, fun _ => ⟨rfl, fun _ _ => rfl⟩⟩
  | 14, _ => Row.agrees_of_eq (op := 0xFE#8) (r := .f3 .incAbsX) rfl ⟨_, _, fun _ => ⟨rfl, fun _ _ => rfl⟩⟩
  | 15, _ => Row.agrees_of_eq (op := 0xFF#8) (r := .f4 .sbcLongX) rfl ⟨_, _, fun _ => ⟨rfl, fun _ _ => rfl⟩⟩
  | n + 16, h => absurd h (by omega)

/-- Every entry of the matrix agrees with the opcode lists (R95, R96). -/
theorem opRow_agrees (op : Byte) : (opRow op).agrees op := by
  have h := op.isLt
  have hm : op.toNat % 16 < 16 := Nat.mod_lt _ (by decide)
  have e : op = BitVec.ofNat 8 (16 * (op.toNat / 16) + op.toNat % 16) := by
    apply BitVec.eq_of_toNat_eq; rw [BitVec.toNat_ofNat]; omega
  have hd : op.toNat / 16 < 16 := by omega
  rw [e]
  generalize op.toNat / 16 = d at hd ⊢
  interval_cases d
  · exact opRow_agrees_0 _ hm
  · exact opRow_agrees_1 _ hm
  · exact opRow_agrees_2 _ hm
  · exact opRow_agrees_3 _ hm
  · exact opRow_agrees_4 _ hm
  · exact opRow_agrees_5 _ hm
  · exact opRow_agrees_6 _ hm
  · exact opRow_agrees_7 _ hm
  · exact opRow_agrees_8 _ hm
  · exact opRow_agrees_9 _ hm
  · exact opRow_agrees_A _ hm
  · exact opRow_agrees_B _ hm
  · exact opRow_agrees_C _ hm
  · exact opRow_agrees_D _ hm
  · exact opRow_agrees_E _ hm
  · exact opRow_agrees_F _ hm

end Sys2Proof
end

