-- ==== Sys2Proof/Laws/PerInstr.lean ====
section
/-! SUPPORT. The family RoundTrip: decoding the encoding of an instruction gives it back, constructor by constructor. -/

namespace Sys2Proof.Laws.RoundTrip

/-- Decoding the encoding of `i`, if it is well-formed, gives `i` and the bytes that follow. -/
def Statement (i : Instr) : Prop :=
  ∀ (m x : Bool) (rest : List Byte), i.wellFormed m x = true → decode m x (encode m x i ++ rest) = .ok (i, rest)

theorem adcImm (v : Word) : Statement (.adcImm v) := fun _ _ _ h => decode_fm (op := 0x69#8) (k := .adcImm) rfl h
theorem adcAbs (a : Word) : Statement (.adcAbs a) := fun _ _ _ _ => decode_f3 (op := 0x6D#8) (k := .adcAbs) rfl
theorem adcLong (a : Addr) : Statement (.adcLong a) := fun _ _ _ _ => decode_f4 (op := 0x6F#8) (k := .adcLong) rfl
theorem adcDp (o : Byte) : Statement (.adcDp o) := fun _ _ _ _ => decode_f2 (op := 0x65#8) (k := .adcDp) rfl
theorem adcDpX (o : Byte) : Statement (.adcDpX o) := fun _ _ _ _ => decode_f2 (op := 0x75#8) (k := .adcDpX) rfl
theorem adcAbsX (a : Word) : Statement (.adcAbsX a) := fun _ _ _ _ => decode_f3 (op := 0x7D#8) (k := .adcAbsX) rfl
theorem adcAbsY (a : Word) : Statement (.adcAbsY a) := fun _ _ _ _ => decode_f3 (op := 0x79#8) (k := .adcAbsY) rfl
theorem adcLongX (a : Addr) : Statement (.adcLongX a) := fun _ _ _ _ => decode_f4 (op := 0x7F#8) (k := .adcLongX) rfl
theorem adcSr (o : Byte) : Statement (.adcSr o) := fun _ _ _ _ => decode_f2 (op := 0x63#8) (k := .adcSr) rfl
theorem adcDpXInd (o : Byte) : Statement (.adcDpXInd o) := fun _ _ _ _ => decode_f2 (op := 0x61#8) (k := .adcDpXInd) rfl
theorem adcDpIndY (o : Byte) : Statement (.adcDpIndY o) := fun _ _ _ _ => decode_f2 (op := 0x71#8) (k := .adcDpIndY) rfl
theorem adcDpLongIndY (o : Byte) : Statement (.adcDpLongIndY o) := fun _ _ _ _ => decode_f2 (op := 0x77#8) (k := .adcDpLongIndY) rfl
theorem adcSrIndY (o : Byte) : Statement (.adcSrIndY o) := fun _ _ _ _ => decode_f2 (op := 0x73#8) (k := .adcSrIndY) rfl
theorem adcDpInd (o : Byte) : Statement (.adcDpInd o) := fun _ _ _ _ => decode_f2 (op := 0x72#8) (k := .adcDpInd) rfl
theorem adcDpLongInd (o : Byte) : Statement (.adcDpLongInd o) := fun _ _ _ _ => decode_f2 (op := 0x67#8) (k := .adcDpLongInd) rfl
theorem andImm (v : Word) : Statement (.andImm v) := fun _ _ _ h => decode_fm (op := 0x29#8) (k := .andImm) rfl h
theorem andAbs (a : Word) : Statement (.andAbs a) := fun _ _ _ _ => decode_f3 (op := 0x2D#8) (k := .andAbs) rfl
theorem andLong (a : Addr) : Statement (.andLong a) := fun _ _ _ _ => decode_f4 (op := 0x2F#8) (k := .andLong) rfl
theorem andDp (o : Byte) : Statement (.andDp o) := fun _ _ _ _ => decode_f2 (op := 0x25#8) (k := .andDp) rfl
theorem andDpX (o : Byte) : Statement (.andDpX o) := fun _ _ _ _ => decode_f2 (op := 0x35#8) (k := .andDpX) rfl
theorem andAbsX (a : Word) : Statement (.andAbsX a) := fun _ _ _ _ => decode_f3 (op := 0x3D#8) (k := .andAbsX) rfl
theorem andAbsY (a : Word) : Statement (.andAbsY a) := fun _ _ _ _ => decode_f3 (op := 0x39#8) (k := .andAbsY) rfl
theorem andLongX (a : Addr) : Statement (.andLongX a) := fun _ _ _ _ => decode_f4 (op := 0x3F#8) (k := .andLongX) rfl
theorem andSr (o : Byte) : Statement (.andSr o) := fun _ _ _ _ => decode_f2 (op := 0x23#8) (k := .andSr) rfl
theorem andDpXInd (o : Byte) : Statement (.andDpXInd o) := fun _ _ _ _ => decode_f2 (op := 0x21#8) (k := .andDpXInd) rfl
theorem andDpIndY (o : Byte) : Statement (.andDpIndY o) := fun _ _ _ _ => decode_f2 (op := 0x31#8) (k := .andDpIndY) rfl
theorem andDpLongIndY (o : Byte) : Statement (.andDpLongIndY o) := fun _ _ _ _ => decode_f2 (op := 0x37#8) (k := .andDpLongIndY) rfl
theorem andSrIndY (o : Byte) : Statement (.andSrIndY o) := fun _ _ _ _ => decode_f2 (op := 0x33#8) (k := .andSrIndY) rfl
theorem andDpInd (o : Byte) : Statement (.andDpInd o) := fun _ _ _ _ => decode_f2 (op := 0x32#8) (k := .andDpInd) rfl
theorem andDpLongInd (o : Byte) : Statement (.andDpLongInd o) := fun _ _ _ _ => decode_f2 (op := 0x27#8) (k := .andDpLongInd) rfl
theorem cmpImm (v : Word) : Statement (.cmpImm v) := fun _ _ _ h => decode_fm (op := 0xC9#8) (k := .cmpImm) rfl h
theorem cmpAbs (a : Word) : Statement (.cmpAbs a) := fun _ _ _ _ => decode_f3 (op := 0xCD#8) (k := .cmpAbs) rfl
theorem cmpLong (a : Addr) : Statement (.cmpLong a) := fun _ _ _ _ => decode_f4 (op := 0xCF#8) (k := .cmpLong) rfl
theorem cmpDp (o : Byte) : Statement (.cmpDp o) := fun _ _ _ _ => decode_f2 (op := 0xC5#8) (k := .cmpDp) rfl
theorem cmpDpX (o : Byte) : Statement (.cmpDpX o) := fun _ _ _ _ => decode_f2 (op := 0xD5#8) (k := .cmpDpX) rfl
theorem cmpAbsX (a : Word) : Statement (.cmpAbsX a) := fun _ _ _ _ => decode_f3 (op := 0xDD#8) (k := .cmpAbsX) rfl
theorem cmpAbsY (a : Word) : Statement (.cmpAbsY a) := fun _ _ _ _ => decode_f3 (op := 0xD9#8) (k := .cmpAbsY) rfl
theorem cmpLongX (a : Addr) : Statement (.cmpLongX a) := fun _ _ _ _ => decode_f4 (op := 0xDF#8) (k := .cmpLongX) rfl
theorem cmpSr (o : Byte) : Statement (.cmpSr o) := fun _ _ _ _ => decode_f2 (op := 0xC3#8) (k := .cmpSr) rfl
theorem cmpDpXInd (o : Byte) : Statement (.cmpDpXInd o) := fun _ _ _ _ => decode_f2 (op := 0xC1#8) (k := .cmpDpXInd) rfl
theorem cmpDpIndY (o : Byte) : Statement (.cmpDpIndY o) := fun _ _ _ _ => decode_f2 (op := 0xD1#8) (k := .cmpDpIndY) rfl
theorem cmpDpLongIndY (o : Byte) : Statement (.cmpDpLongIndY o) := fun _ _ _ _ => decode_f2 (op := 0xD7#8) (k := .cmpDpLongIndY) rfl
theorem cmpSrIndY (o : Byte) : Statement (.cmpSrIndY o) := fun _ _ _ _ => decode_f2 (op := 0xD3#8) (k := .cmpSrIndY) rfl
theorem cmpDpInd (o : Byte) : Statement (.cmpDpInd o) := fun _ _ _ _ => decode_f2 (op := 0xD2#8) (k := .cmpDpInd) rfl
theorem cmpDpLongInd (o : Byte) : Statement (.cmpDpLongInd o) := fun _ _ _ _ => decode_f2 (op := 0xC7#8) (k := .cmpDpLongInd) rfl
theorem eorImm (v : Word) : Statement (.eorImm v) := fun _ _ _ h => decode_fm (op := 0x49#8) (k := .eorImm) rfl h
theorem eorAbs (a : Word) : Statement (.eorAbs a) := fun _ _ _ _ => decode_f3 (op := 0x4D#8) (k := .eorAbs) rfl
theorem eorLong (a : Addr) : Statement (.eorLong a) := fun _ _ _ _ => decode_f4 (op := 0x4F#8) (k := .eorLong) rfl
theorem eorDp (o : Byte) : Statement (.eorDp o) := fun _ _ _ _ => decode_f2 (op := 0x45#8) (k := .eorDp) rfl
theorem eorDpX (o : Byte) : Statement (.eorDpX o) := fun _ _ _ _ => decode_f2 (op := 0x55#8) (k := .eorDpX) rfl
theorem eorAbsX (a : Word) : Statement (.eorAbsX a) := fun _ _ _ _ => decode_f3 (op := 0x5D#8) (k := .eorAbsX) rfl
theorem eorAbsY (a : Word) : Statement (.eorAbsY a) := fun _ _ _ _ => decode_f3 (op := 0x59#8) (k := .eorAbsY) rfl
theorem eorLongX (a : Addr) : Statement (.eorLongX a) := fun _ _ _ _ => decode_f4 (op := 0x5F#8) (k := .eorLongX) rfl
theorem eorSr (o : Byte) : Statement (.eorSr o) := fun _ _ _ _ => decode_f2 (op := 0x43#8) (k := .eorSr) rfl
theorem eorDpXInd (o : Byte) : Statement (.eorDpXInd o) := fun _ _ _ _ => decode_f2 (op := 0x41#8) (k := .eorDpXInd) rfl
theorem eorDpIndY (o : Byte) : Statement (.eorDpIndY o) := fun _ _ _ _ => decode_f2 (op := 0x51#8) (k := .eorDpIndY) rfl
theorem eorDpLongIndY (o : Byte) : Statement (.eorDpLongIndY o) := fun _ _ _ _ => decode_f2 (op := 0x57#8) (k := .eorDpLongIndY) rfl
theorem eorSrIndY (o : Byte) : Statement (.eorSrIndY o) := fun _ _ _ _ => decode_f2 (op := 0x53#8) (k := .eorSrIndY) rfl
theorem eorDpInd (o : Byte) : Statement (.eorDpInd o) := fun _ _ _ _ => decode_f2 (op := 0x52#8) (k := .eorDpInd) rfl
theorem eorDpLongInd (o : Byte) : Statement (.eorDpLongInd o) := fun _ _ _ _ => decode_f2 (op := 0x47#8) (k := .eorDpLongInd) rfl
theorem ldaImm (v : Word) : Statement (.ldaImm v) := fun _ _ _ h => decode_fm (op := 0xA9#8) (k := .ldaImm) rfl h
theorem ldaAbs (a : Word) : Statement (.ldaAbs a) := fun _ _ _ _ => decode_f3 (op := 0xAD#8) (k := .ldaAbs) rfl
theorem ldaLong (a : Addr) : Statement (.ldaLong a) := fun _ _ _ _ => decode_f4 (op := 0xAF#8) (k := .ldaLong) rfl
theorem ldaDp (o : Byte) : Statement (.ldaDp o) := fun _ _ _ _ => decode_f2 (op := 0xA5#8) (k := .ldaDp) rfl
theorem ldaDpX (o : Byte) : Statement (.ldaDpX o) := fun _ _ _ _ => decode_f2 (op := 0xB5#8) (k := .ldaDpX) rfl
theorem ldaAbsX (a : Word) : Statement (.ldaAbsX a) := fun _ _ _ _ => decode_f3 (op := 0xBD#8) (k := .ldaAbsX) rfl
theorem ldaAbsY (a : Word) : Statement (.ldaAbsY a) := fun _ _ _ _ => decode_f3 (op := 0xB9#8) (k := .ldaAbsY) rfl
theorem ldaLongX (a : Addr) : Statement (.ldaLongX a) := fun _ _ _ _ => decode_f4 (op := 0xBF#8) (k := .ldaLongX) rfl
theorem ldaSr (o : Byte) : Statement (.ldaSr o) := fun _ _ _ _ => decode_f2 (op := 0xA3#8) (k := .ldaSr) rfl
theorem ldaDpXInd (o : Byte) : Statement (.ldaDpXInd o) := fun _ _ _ _ => decode_f2 (op := 0xA1#8) (k := .ldaDpXInd) rfl
theorem ldaDpIndY (o : Byte) : Statement (.ldaDpIndY o) := fun _ _ _ _ => decode_f2 (op := 0xB1#8) (k := .ldaDpIndY) rfl
theorem ldaDpLongIndY (o : Byte) : Statement (.ldaDpLongIndY o) := fun _ _ _ _ => decode_f2 (op := 0xB7#8) (k := .ldaDpLongIndY) rfl
theorem ldaSrIndY (o : Byte) : Statement (.ldaSrIndY o) := fun _ _ _ _ => decode_f2 (op := 0xB3#8) (k := .ldaSrIndY) rfl
theorem ldaDpInd (o : Byte) : Statement (.ldaDpInd o) := fun _ _ _ _ => decode_f2 (op := 0xB2#8) (k := .ldaDpInd) rfl
theorem ldaDpLongInd (o : Byte) : Statement (.ldaDpLongInd o) := fun _ _ _ _ => decode_f2 (op := 0xA7#8) (k := .ldaDpLongInd) rfl
theorem oraImm (v : Word) : Statement (.oraImm v) := fun _ _ _ h => decode_fm (op := 0x09#8) (k := .oraImm) rfl h
theorem oraAbs (a : Word) : Statement (.oraAbs a) := fun _ _ _ _ => decode_f3 (op := 0x0D#8) (k := .oraAbs) rfl
theorem oraLong (a : Addr) : Statement (.oraLong a) := fun _ _ _ _ => decode_f4 (op := 0x0F#8) (k := .oraLong) rfl
theorem oraDp (o : Byte) : Statement (.oraDp o) := fun _ _ _ _ => decode_f2 (op := 0x05#8) (k := .oraDp) rfl
theorem oraDpX (o : Byte) : Statement (.oraDpX o) := fun _ _ _ _ => decode_f2 (op := 0x15#8) (k := .oraDpX) rfl
theorem oraAbsX (a : Word) : Statement (.oraAbsX a) := fun _ _ _ _ => decode_f3 (op := 0x1D#8) (k := .oraAbsX) rfl
theorem oraAbsY (a : Word) : Statement (.oraAbsY a) := fun _ _ _ _ => decode_f3 (op := 0x19#8) (k := .oraAbsY) rfl
theorem oraLongX (a : Addr) : Statement (.oraLongX a) := fun _ _ _ _ => decode_f4 (op := 0x1F#8) (k := .oraLongX) rfl
theorem oraSr (o : Byte) : Statement (.oraSr o) := fun _ _ _ _ => decode_f2 (op := 0x03#8) (k := .oraSr) rfl
theorem oraDpXInd (o : Byte) : Statement (.oraDpXInd o) := fun _ _ _ _ => decode_f2 (op := 0x01#8) (k := .oraDpXInd) rfl
theorem oraDpIndY (o : Byte) : Statement (.oraDpIndY o) := fun _ _ _ _ => decode_f2 (op := 0x11#8) (k := .oraDpIndY) rfl
theorem oraDpLongIndY (o : Byte) : Statement (.oraDpLongIndY o) := fun _ _ _ _ => decode_f2 (op := 0x17#8) (k := .oraDpLongIndY) rfl
theorem oraSrIndY (o : Byte) : Statement (.oraSrIndY o) := fun _ _ _ _ => decode_f2 (op := 0x13#8) (k := .oraSrIndY) rfl
theorem oraDpInd (o : Byte) : Statement (.oraDpInd o) := fun _ _ _ _ => decode_f2 (op := 0x12#8) (k := .oraDpInd) rfl
theorem oraDpLongInd (o : Byte) : Statement (.oraDpLongInd o) := fun _ _ _ _ => decode_f2 (op := 0x07#8) (k := .oraDpLongInd) rfl
theorem sbcImm (v : Word) : Statement (.sbcImm v) := fun _ _ _ h => decode_fm (op := 0xE9#8) (k := .sbcImm) rfl h
theorem sbcAbs (a : Word) : Statement (.sbcAbs a) := fun _ _ _ _ => decode_f3 (op := 0xED#8) (k := .sbcAbs) rfl
theorem sbcLong (a : Addr) : Statement (.sbcLong a) := fun _ _ _ _ => decode_f4 (op := 0xEF#8) (k := .sbcLong) rfl
theorem sbcDp (o : Byte) : Statement (.sbcDp o) := fun _ _ _ _ => decode_f2 (op := 0xE5#8) (k := .sbcDp) rfl
theorem sbcDpX (o : Byte) : Statement (.sbcDpX o) := fun _ _ _ _ => decode_f2 (op := 0xF5#8) (k := .sbcDpX) rfl
theorem sbcAbsX (a : Word) : Statement (.sbcAbsX a) := fun _ _ _ _ => decode_f3 (op := 0xFD#8) (k := .sbcAbsX) rfl
theorem sbcAbsY (a : Word) : Statement (.sbcAbsY a) := fun _ _ _ _ => decode_f3 (op := 0xF9#8) (k := .sbcAbsY) rfl
theorem sbcLongX (a : Addr) : Statement (.sbcLongX a) := fun _ _ _ _ => decode_f4 (op := 0xFF#8) (k := .sbcLongX) rfl
theorem sbcSr (o : Byte) : Statement (.sbcSr o) := fun _ _ _ _ => decode_f2 (op := 0xE3#8) (k := .sbcSr) rfl
theorem sbcDpXInd (o : Byte) : Statement (.sbcDpXInd o) := fun _ _ _ _ => decode_f2 (op := 0xE1#8) (k := .sbcDpXInd) rfl
theorem sbcDpIndY (o : Byte) : Statement (.sbcDpIndY o) := fun _ _ _ _ => decode_f2 (op := 0xF1#8) (k := .sbcDpIndY) rfl
theorem sbcDpLongIndY (o : Byte) : Statement (.sbcDpLongIndY o) := fun _ _ _ _ => decode_f2 (op := 0xF7#8) (k := .sbcDpLongIndY) rfl
theorem sbcSrIndY (o : Byte) : Statement (.sbcSrIndY o) := fun _ _ _ _ => decode_f2 (op := 0xF3#8) (k := .sbcSrIndY) rfl
theorem sbcDpInd (o : Byte) : Statement (.sbcDpInd o) := fun _ _ _ _ => decode_f2 (op := 0xF2#8) (k := .sbcDpInd) rfl
theorem sbcDpLongInd (o : Byte) : Statement (.sbcDpLongInd o) := fun _ _ _ _ => decode_f2 (op := 0xE7#8) (k := .sbcDpLongInd) rfl
theorem staAbs (a : Word) : Statement (.staAbs a) := fun _ _ _ _ => decode_f3 (op := 0x8D#8) (k := .staAbs) rfl
theorem staLong (a : Addr) : Statement (.staLong a) := fun _ _ _ _ => decode_f4 (op := 0x8F#8) (k := .staLong) rfl
theorem staDp (o : Byte) : Statement (.staDp o) := fun _ _ _ _ => decode_f2 (op := 0x85#8) (k := .staDp) rfl
theorem staDpX (o : Byte) : Statement (.staDpX o) := fun _ _ _ _ => decode_f2 (op := 0x95#8) (k := .staDpX) rfl
theorem staAbsX (a : Word) : Statement (.staAbsX a) := fun _ _ _ _ => decode_f3 (op := 0x9D#8) (k := .staAbsX) rfl
theorem staAbsY (a : Word) : Statement (.staAbsY a) := fun _ _ _ _ => decode_f3 (op := 0x99#8) (k := .staAbsY) rfl
theorem staLongX (a : Addr) : Statement (.staLongX a) := fun _ _ _ _ => decode_f4 (op := 0x9F#8) (k := .staLongX) rfl
theorem staSr (o : Byte) : Statement (.staSr o) := fun _ _ _ _ => decode_f2 (op := 0x83#8) (k := .staSr) rfl
theorem staDpXInd (o : Byte) : Statement (.staDpXInd o) := fun _ _ _ _ => decode_f2 (op := 0x81#8) (k := .staDpXInd) rfl
theorem staDpIndY (o : Byte) : Statement (.staDpIndY o) := fun _ _ _ _ => decode_f2 (op := 0x91#8) (k := .staDpIndY) rfl
theorem staDpLongIndY (o : Byte) : Statement (.staDpLongIndY o) := fun _ _ _ _ => decode_f2 (op := 0x97#8) (k := .staDpLongIndY) rfl
theorem staSrIndY (o : Byte) : Statement (.staSrIndY o) := fun _ _ _ _ => decode_f2 (op := 0x93#8) (k := .staSrIndY) rfl
theorem staDpInd (o : Byte) : Statement (.staDpInd o) := fun _ _ _ _ => decode_f2 (op := 0x92#8) (k := .staDpInd) rfl
theorem staDpLongInd (o : Byte) : Statement (.staDpLongInd o) := fun _ _ _ _ => decode_f2 (op := 0x87#8) (k := .staDpLongInd) rfl
theorem bitImm (v : Word) : Statement (.bitImm v) := fun _ _ _ h => decode_fm (op := 0x89#8) (k := .bitImm) rfl h
theorem bitAbs (a : Word) : Statement (.bitAbs a) := fun _ _ _ _ => decode_f3 (op := 0x2C#8) (k := .bitAbs) rfl
theorem bitDp (o : Byte) : Statement (.bitDp o) := fun _ _ _ _ => decode_f2 (op := 0x24#8) (k := .bitDp) rfl
theorem bitDpX (o : Byte) : Statement (.bitDpX o) := fun _ _ _ _ => decode_f2 (op := 0x34#8) (k := .bitDpX) rfl
theorem bitAbsX (a : Word) : Statement (.bitAbsX a) := fun _ _ _ _ => decode_f3 (op := 0x3C#8) (k := .bitAbsX) rfl
theorem rorAbs (a : Word) : Statement (.rorAbs a) := fun _ _ _ _ => decode_f3 (op := 0x6E#8) (k := .rorAbs) rfl
theorem rorDp (o : Byte) : Statement (.rorDp o) := fun _ _ _ _ => decode_f2 (op := 0x66#8) (k := .rorDp) rfl
theorem rorAcc : Statement .rorAcc := fun _ _ _ _ => decode_f1 (op := 0x6A#8) (i := .rorAcc) rfl
theorem rorDpX (o : Byte) : Statement (.rorDpX o) := fun _ _ _ _ => decode_f2 (op := 0x76#8) (k := .rorDpX) rfl
theorem rorAbsX (a : Word) : Statement (.rorAbsX a) := fun _ _ _ _ => decode_f3 (op := 0x7E#8) (k := .rorAbsX) rfl
theorem aslAbs (a : Word) : Statement (.aslAbs a) := fun _ _ _ _ => decode_f3 (op := 0x0E#8) (k := .aslAbs) rfl
theorem aslDp (o : Byte) : Statement (.aslDp o) := fun _ _ _ _ => decode_f2 (op := 0x06#8) (k := .aslDp) rfl
theorem aslAcc : Statement .aslAcc := fun _ _ _ _ => decode_f1 (op := 0x0A#8) (i := .aslAcc) rfl
theorem aslDpX (o : Byte) : Statement (.aslDpX o) := fun _ _ _ _ => decode_f2 (op := 0x16#8) (k := .aslDpX) rfl
theorem aslAbsX (a : Word) : Statement (.aslAbsX a) := fun _ _ _ _ => decode_f3 (op := 0x1E#8) (k := .aslAbsX) rfl
theorem lsrAbs (a : Word) : Statement (.lsrAbs a) := fun _ _ _ _ => decode_f3 (op := 0x4E#8) (k := .lsrAbs) rfl
theorem lsrDp (o : Byte) : Statement (.lsrDp o) := fun _ _ _ _ => decode_f2 (op := 0x46#8) (k := .lsrDp) rfl
theorem lsrAcc : Statement .lsrAcc := fun _ _ _ _ => decode_f1 (op := 0x4A#8) (i := .lsrAcc) rfl
theorem lsrDpX (o : Byte) : Statement (.lsrDpX o) := fun _ _ _ _ => decode_f2 (op := 0x56#8) (k := .lsrDpX) rfl
theorem lsrAbsX (a : Word) : Statement (.lsrAbsX a) := fun _ _ _ _ => decode_f3 (op := 0x5E#8) (k := .lsrAbsX) rfl
theorem rolAbs (a : Word) : Statement (.rolAbs a) := fun _ _ _ _ => decode_f3 (op := 0x2E#8) (k := .rolAbs) rfl
theorem rolDp (o : Byte) : Statement (.rolDp o) := fun _ _ _ _ => decode_f2 (op := 0x26#8) (k := .rolDp) rfl
theorem rolAcc : Statement .rolAcc := fun _ _ _ _ => decode_f1 (op := 0x2A#8) (i := .rolAcc) rfl
theorem rolDpX (o : Byte) : Statement (.rolDpX o) := fun _ _ _ _ => decode_f2 (op := 0x36#8) (k := .rolDpX) rfl
theorem rolAbsX (a : Word) : Statement (.rolAbsX a) := fun _ _ _ _ => decode_f3 (op := 0x3E#8) (k := .rolAbsX) rfl
theorem incAbs (a : Word) : Statement (.incAbs a) := fun _ _ _ _ => decode_f3 (op := 0xEE#8) (k := .incAbs) rfl
theorem incDp (o : Byte) : Statement (.incDp o) := fun _ _ _ _ => decode_f2 (op := 0xE6#8) (k := .incDp) rfl
theorem incAcc : Statement .incAcc := fun _ _ _ _ => decode_f1 (op := 0x1A#8) (i := .incAcc) rfl
theorem incDpX (o : Byte) : Statement (.incDpX o) := fun _ _ _ _ => decode_f2 (op := 0xF6#8) (k := .incDpX) rfl
theorem incAbsX (a : Word) : Statement (.incAbsX a) := fun _ _ _ _ => decode_f3 (op := 0xFE#8) (k := .incAbsX) rfl
theorem decAbs (a : Word) : Statement (.decAbs a) := fun _ _ _ _ => decode_f3 (op := 0xCE#8) (k := .decAbs) rfl
theorem decDp (o : Byte) : Statement (.decDp o) := fun _ _ _ _ => decode_f2 (op := 0xC6#8) (k := .decDp) rfl
theorem decAcc : Statement .decAcc := fun _ _ _ _ => decode_f1 (op := 0x3A#8) (i := .decAcc) rfl
theorem decDpX (o : Byte) : Statement (.decDpX o) := fun _ _ _ _ => decode_f2 (op := 0xD6#8) (k := .decDpX) rfl
theorem decAbsX (a : Word) : Statement (.decAbsX a) := fun _ _ _ _ => decode_f3 (op := 0xDE#8) (k := .decAbsX) rfl
theorem rep (o : Byte) : Statement (.rep o) := fun _ _ _ _ => decode_f2 (op := 0xC2#8) (k := .rep) rfl
theorem sep (o : Byte) : Statement (.sep o) := fun _ _ _ _ => decode_f2 (op := 0xE2#8) (k := .sep) rfl
theorem trbAbs (a : Word) : Statement (.trbAbs a) := fun _ _ _ _ => decode_f3 (op := 0x1C#8) (k := .trbAbs) rfl
theorem trbDp (o : Byte) : Statement (.trbDp o) := fun _ _ _ _ => decode_f2 (op := 0x14#8) (k := .trbDp) rfl
theorem tsbAbs (a : Word) : Statement (.tsbAbs a) := fun _ _ _ _ => decode_f3 (op := 0x0C#8) (k := .tsbAbs) rfl
theorem tsbDp (o : Byte) : Statement (.tsbDp o) := fun _ _ _ _ => decode_f2 (op := 0x04#8) (k := .tsbDp) rfl
theorem ldxImm (v : Word) : Statement (.ldxImm v) := fun _ _ _ h => decode_fx (op := 0xA2#8) (k := .ldxImm) rfl h
theorem ldxAbs (a : Word) : Statement (.ldxAbs a) := fun _ _ _ _ => decode_f3 (op := 0xAE#8) (k := .ldxAbs) rfl
theorem ldxDp (o : Byte) : Statement (.ldxDp o) := fun _ _ _ _ => decode_f2 (op := 0xA6#8) (k := .ldxDp) rfl
theorem ldxDpY (o : Byte) : Statement (.ldxDpY o) := fun _ _ _ _ => decode_f2 (op := 0xB6#8) (k := .ldxDpY) rfl
theorem ldxAbsY (a : Word) : Statement (.ldxAbsY a) := fun _ _ _ _ => decode_f3 (op := 0xBE#8) (k := .ldxAbsY) rfl
theorem ldyImm (v : Word) : Statement (.ldyImm v) := fun _ _ _ h => decode_fx (op := 0xA0#8) (k := .ldyImm) rfl h
theorem ldyAbs (a : Word) : Statement (.ldyAbs a) := fun _ _ _ _ => decode_f3 (op := 0xAC#8) (k := .ldyAbs) rfl
theorem ldyDp (o : Byte) : Statement (.ldyDp o) := fun _ _ _ _ => decode_f2 (op := 0xA4#8) (k := .ldyDp) rfl
theorem ldyDpX (o : Byte) : Statement (.ldyDpX o) := fun _ _ _ _ => decode_f2 (op := 0xB4#8) (k := .ldyDpX) rfl
theorem ldyAbsX (a : Word) : Statement (.ldyAbsX a) := fun _ _ _ _ => decode_f3 (op := 0xBC#8) (k := .ldyAbsX) rfl
theorem cpxImm (v : Word) : Statement (.cpxImm v) := fun _ _ _ h => decode_fx (op := 0xE0#8) (k := .cpxImm) rfl h
theorem cpxAbs (a : Word) : Statement (.cpxAbs a) := fun _ _ _ _ => decode_f3 (op := 0xEC#8) (k := .cpxAbs) rfl
theorem cpxDp (o : Byte) : Statement (.cpxDp o) := fun _ _ _ _ => decode_f2 (op := 0xE4#8) (k := .cpxDp) rfl
theorem cpyImm (v : Word) : Statement (.cpyImm v) := fun _ _ _ h => decode_fx (op := 0xC0#8) (k := .cpyImm) rfl h
theorem cpyAbs (a : Word) : Statement (.cpyAbs a) := fun _ _ _ _ => decode_f3 (op := 0xCC#8) (k := .cpyAbs) rfl
theorem cpyDp (o : Byte) : Statement (.cpyDp o) := fun _ _ _ _ => decode_f2 (op := 0xC4#8) (k := .cpyDp) rfl
theorem stxAbs (a : Word) : Statement (.stxAbs a) := fun _ _ _ _ => decode_f3 (op := 0x8E#8) (k := .stxAbs) rfl
theorem stxDp (o : Byte) : Statement (.stxDp o) := fun _ _ _ _ => decode_f2 (op := 0x86#8) (k := .stxDp) rfl
theorem stxDpY (o : Byte) : Statement (.stxDpY o) := fun _ _ _ _ => decode_f2 (op := 0x96#8) (k := .stxDpY) rfl
theorem styAbs (a : Word) : Statement (.styAbs a) := fun _ _ _ _ => decode_f3 (op := 0x8C#8) (k := .styAbs) rfl
theorem styDp (o : Byte) : Statement (.styDp o) := fun _ _ _ _ => decode_f2 (op := 0x84#8) (k := .styDp) rfl
theorem styDpX (o : Byte) : Statement (.styDpX o) := fun _ _ _ _ => decode_f2 (op := 0x94#8) (k := .styDpX) rfl
theorem stzAbs (a : Word) : Statement (.stzAbs a) := fun _ _ _ _ => decode_f3 (op := 0x9C#8) (k := .stzAbs) rfl
theorem stzDp (o : Byte) : Statement (.stzDp o) := fun _ _ _ _ => decode_f2 (op := 0x64#8) (k := .stzDp) rfl
theorem stzDpX (o : Byte) : Statement (.stzDpX o) := fun _ _ _ _ => decode_f2 (op := 0x74#8) (k := .stzDpX) rfl
theorem stzAbsX (a : Word) : Statement (.stzAbsX a) := fun _ _ _ _ => decode_f3 (op := 0x9E#8) (k := .stzAbsX) rfl
theorem inx : Statement .inx := fun _ _ _ _ => decode_f1 (op := 0xE8#8) (i := .inx) rfl
theorem iny : Statement .iny := fun _ _ _ _ => decode_f1 (op := 0xC8#8) (i := .iny) rfl
theorem dex : Statement .dex := fun _ _ _ _ => decode_f1 (op := 0xCA#8) (i := .dex) rfl
theorem dey : Statement .dey := fun _ _ _ _ => decode_f1 (op := 0x88#8) (i := .dey) rfl
theorem tax : Statement .tax := fun _ _ _ _ => decode_f1 (op := 0xAA#8) (i := .tax) rfl
theorem tay : Statement .tay := fun _ _ _ _ => decode_f1 (op := 0xA8#8) (i := .tay) rfl
theorem tsx : Statement .tsx := fun _ _ _ _ => decode_f1 (op := 0xBA#8) (i := .tsx) rfl
theorem txa : Statement .txa := fun _ _ _ _ => decode_f1 (op := 0x8A#8) (i := .txa) rfl
theorem txs : Statement .txs := fun _ _ _ _ => decode_f1 (op := 0x9A#8) (i := .txs) rfl
theorem txy : Statement .txy := fun _ _ _ _ => decode_f1 (op := 0x9B#8) (i := .txy) rfl
theorem tya : Statement .tya := fun _ _ _ _ => decode_f1 (op := 0x98#8) (i := .tya) rfl
theorem tyx : Statement .tyx := fun _ _ _ _ => decode_f1 (op := 0xBB#8) (i := .tyx) rfl
theorem clc : Statement .clc := fun _ _ _ _ => decode_f1 (op := 0x18#8) (i := .clc) rfl
theorem cld : Statement .cld := fun _ _ _ _ => decode_f1 (op := 0xD8#8) (i := .cld) rfl
theorem cli : Statement .cli := fun _ _ _ _ => decode_f1 (op := 0x58#8) (i := .cli) rfl
theorem clv : Statement .clv := fun _ _ _ _ => decode_f1 (op := 0xB8#8) (i := .clv) rfl
theorem sec : Statement .sec := fun _ _ _ _ => decode_f1 (op := 0x38#8) (i := .sec) rfl
theorem sed : Statement .sed := fun _ _ _ _ => decode_f1 (op := 0xF8#8) (i := .sed) rfl
theorem sei : Statement .sei := fun _ _ _ _ => decode_f1 (op := 0x78#8) (i := .sei) rfl
theorem tcd : Statement .tcd := fun _ _ _ _ => decode_f1 (op := 0x5B#8) (i := .tcd) rfl
theorem tcs : Statement .tcs := fun _ _ _ _ => decode_f1 (op := 0x1B#8) (i := .tcs) rfl
theorem tdc : Statement .tdc := fun _ _ _ _ => decode_f1 (op := 0x7B#8) (i := .tdc) rfl
theorem tsc : Statement .tsc := fun _ _ _ _ => decode_f1 (op := 0x3B#8) (i := .tsc) rfl
theorem xba : Statement .xba := fun _ _ _ _ => decode_f1 (op := 0xEB#8) (i := .xba) rfl
theorem xce : Statement .xce := fun _ _ _ _ => decode_f1 (op := 0xFB#8) (i := .xce) rfl
theorem stp : Statement .stp := fun _ _ _ _ => decode_f1 (op := 0xDB#8) (i := .stp) rfl
theorem wai : Statement .wai := fun _ _ _ _ => decode_f1 (op := 0xCB#8) (i := .wai) rfl
theorem wdm (o : Byte) : Statement (.wdm o) := fun _ _ _ _ => decode_f2 (op := 0x42#8) (k := .wdm) rfl
theorem nop : Statement .nop := fun _ _ _ _ => decode_f1 (op := 0xEA#8) (i := .nop) rfl
theorem pha : Statement .pha := fun _ _ _ _ => decode_f1 (op := 0x48#8) (i := .pha) rfl
theorem phb : Statement .phb := fun _ _ _ _ => decode_f1 (op := 0x8B#8) (i := .phb) rfl
theorem phd : Statement .phd := fun _ _ _ _ => decode_f1 (op := 0x0B#8) (i := .phd) rfl
theorem phk : Statement .phk := fun _ _ _ _ => decode_f1 (op := 0x4B#8) (i := .phk) rfl
theorem php : Statement .php := fun _ _ _ _ => decode_f1 (op := 0x08#8) (i := .php) rfl
theorem phx : Statement .phx := fun _ _ _ _ => decode_f1 (op := 0xDA#8) (i := .phx) rfl
theorem phy : Statement .phy := fun _ _ _ _ => decode_f1 (op := 0x5A#8) (i := .phy) rfl
theorem pla : Statement .pla := fun _ _ _ _ => decode_f1 (op := 0x68#8) (i := .pla) rfl
theorem plb : Statement .plb := fun _ _ _ _ => decode_f1 (op := 0xAB#8) (i := .plb) rfl
theorem pld : Statement .pld := fun _ _ _ _ => decode_f1 (op := 0x2B#8) (i := .pld) rfl
theorem plp : Statement .plp := fun _ _ _ _ => decode_f1 (op := 0x28#8) (i := .plp) rfl
theorem plx : Statement .plx := fun _ _ _ _ => decode_f1 (op := 0xFA#8) (i := .plx) rfl
theorem ply : Statement .ply := fun _ _ _ _ => decode_f1 (op := 0x7A#8) (i := .ply) rfl
theorem pea (a : Word) : Statement (.pea a) := fun _ _ _ _ => decode_f3 (op := 0xF4#8) (k := .pea) rfl
theorem pei (o : Byte) : Statement (.pei o) := fun _ _ _ _ => decode_f2 (op := 0xD4#8) (k := .pei) rfl
theorem per (a : Word) : Statement (.per a) := fun _ _ _ _ => decode_f3 (op := 0x62#8) (k := .per) rfl
theorem brk (o : Byte) : Statement (.brk o) := fun _ _ _ _ => decode_f2 (op := 0x00#8) (k := .brk) rfl
theorem cop (o : Byte) : Statement (.cop o) := fun _ _ _ _ => decode_f2 (op := 0x02#8) (k := .cop) rfl
theorem rti : Statement .rti := fun _ _ _ _ => decode_f1 (op := 0x40#8) (i := .rti) rfl
theorem rtl : Statement .rtl := fun _ _ _ _ => decode_f1 (op := 0x6B#8) (i := .rtl) rfl
theorem rts : Statement .rts := fun _ _ _ _ => decode_f1 (op := 0x60#8) (i := .rts) rfl
theorem bcc (o : Byte) : Statement (.bcc o) := fun _ _ _ _ => decode_f2 (op := 0x90#8) (k := .bcc) rfl
theorem bcs (o : Byte) : Statement (.bcs o) := fun _ _ _ _ => decode_f2 (op := 0xB0#8) (k := .bcs) rfl
theorem beq (o : Byte) : Statement (.beq o) := fun _ _ _ _ => decode_f2 (op := 0xF0#8) (k := .beq) rfl
theorem bmi (o : Byte) : Statement (.bmi o) := fun _ _ _ _ => decode_f2 (op := 0x30#8) (k := .bmi) rfl
theorem bne (o : Byte) : Statement (.bne o) := fun _ _ _ _ => decode_f2 (op := 0xD0#8) (k := .bne) rfl
theorem bpl (o : Byte) : Statement (.bpl o) := fun _ _ _ _ => decode_f2 (op := 0x10#8) (k := .bpl) rfl
theorem bra (o : Byte) : Statement (.bra o) := fun _ _ _ _ => decode_f2 (op := 0x80#8) (k := .bra) rfl
theorem brl (a : Word) : Statement (.brl a) := fun _ _ _ _ => decode_f3 (op := 0x82#8) (k := .brl) rfl
theorem bvc (o : Byte) : Statement (.bvc o) := fun _ _ _ _ => decode_f2 (op := 0x50#8) (k := .bvc) rfl
theorem bvs (o : Byte) : Statement (.bvs o) := fun _ _ _ _ => decode_f2 (op := 0x70#8) (k := .bvs) rfl
theorem jml (a : Word) : Statement (.jml a) := fun _ _ _ _ => decode_f3 (op := 0xDC#8) (k := .jml) rfl
theorem jmpAbs (a : Word) : Statement (.jmpAbs a) := fun _ _ _ _ => decode_f3 (op := 0x4C#8) (k := .jmpAbs) rfl
theorem jmpLong (a : Addr) : Statement (.jmpLong a) := fun _ _ _ _ => decode_f4 (op := 0x5C#8) (k := .jmpLong) rfl
theorem jmpAbsInd (a : Word) : Statement (.jmpAbsInd a) := fun _ _ _ _ => decode_f3 (op := 0x6C#8) (k := .jmpAbsInd) rfl
theorem jmpAbsXInd (a : Word) : Statement (.jmpAbsXInd a) := fun _ _ _ _ => decode_f3 (op := 0x7C#8) (k := .jmpAbsXInd) rfl
theorem jsl (a : Addr) : Statement (.jsl a) := fun _ _ _ _ => decode_f4 (op := 0x22#8) (k := .jsl) rfl
theorem jsrAbs (a : Word) : Statement (.jsrAbs a) := fun _ _ _ _ => decode_f3 (op := 0x20#8) (k := .jsrAbs) rfl
theorem jsrAbsXInd (a : Word) : Statement (.jsrAbsXInd a) := fun _ _ _ _ => decode_f3 (op := 0xFC#8) (k := .jsrAbsXInd) rfl
theorem mvn (dst src : Byte) : Statement (.mvn dst src) := fun _ _ _ _ => decode_f3b (op := 0x54#8) (k := .mvn) rfl
theorem mvp (dst src : Byte) : Statement (.mvp dst src) := fun _ _ _ _ => decode_f3b (op := 0x44#8) (k := .mvp) rfl

end Sys2Proof.Laws.RoundTrip
end

