-- ==== Sys2Proof/Machine/Timing.lean ====
section
/-! DEFINITION. The minimum clock counts of R411. They are informative: no step of the machine uses them, the spec
gives no exact timing (R5, R411, R412; log 16). -/

namespace Sys2Proof.Machine

/-- Group 1 loads and arithmetic, by mode (R411). -/
def readClocks : Mode → Nat
  | .immediate => 2
  | .direct => 3
  | .absolute | .directX | .directY | .absoluteX | .absoluteY | .stackRelative => 4
  | .absoluteLong | .absoluteLongX | .directIndirectY | .directIndirect => 5
  | .directXIndirect | .directIndirectLongY | .directIndirectLong => 6
  | .stackRelativeIndirectY => 7
  | .accumulator | .implied | .stack | .relative | .relativeLong | .absoluteIndirect | .absoluteIndexedIndirect | .xyc => 2

/-- STA, by mode: one more than the loads for three modes (R411). -/
def staClocks : Mode → Nat
  | .absoluteX | .absoluteY => 5
  | .directIndirectY => 6
  | m => readClocks m

/-- The shifts and counts, TRB and TSB, by mode (R411). -/
def modifyClocks : Mode → Nat
  | .accumulator => 2
  | .direct => 5
  | .absoluteX => 7
  | _ => 6

/-- The minimum clock count of an instruction; of a block move, per byte (R411). -/
def minClocks (i : Instr) : Nat :=
  match i.mnemonic with
  | .adc | .and | .cmp | .eor | .lda | .ora | .sbc | .bit => readClocks i.mode
  | .ldx | .ldy | .cpx | .cpy | .stx | .sty | .stz => readClocks i.mode
  | .sta => staClocks i.mode
  | .ror | .asl | .lsr | .rol | .inc | .dec | .trb | .tsb => modifyClocks i.mode
  | .rep | .sep | .xba | .stp | .wai => 3
  | .inx | .iny | .dex | .dey | .tax | .tay | .tsx | .txa | .txs | .txy | .tya | .tyx => 2
  | .clc | .cld | .cli | .clv | .sec | .sed | .sei | .tcd | .tcs | .tdc | .tsc | .xce | .wdm | .nop => 2
  | .pha | .phb | .phk | .php | .phx | .phy => 3
  | .phd | .pla | .plb | .plp | .plx | .ply => 4
  | .pld | .pea => 5
  | .pei | .per | .rti | .rtl | .rts | .jml | .jsr => 6
  | .brk | .cop | .mvn | .mvp => 7
  | .bcc | .bcs | .beq | .bmi | .bne | .bpl | .bvc | .bvs => 2
  | .bra => 3
  | .brl => 4
  | .jmp =>
    match i.mode with
    | .absolute => 3
    | .absoluteLong => 4
    | _ => 5
  | .jsl => 8

end Sys2Proof.Machine
end

