-- ==== Sys2Proof/Tests/Slice0.lean ====
section
/-! SUPPORT. Tests: well-formedness refuses what it should, the decoder reads words written out from the spec's encodings,
and single steps give what the vectors of spec/95_test_vectors.md say. -/

namespace Sys2Proof.Tests

open Sys2Proof.Machine

/-! ### Well-formedness (R93, R97): each check refuses an ill-formed term -/

theorem test_wellFormed_refuses_oraImm :
    (Instr.oraImm 0x1234).wellFormed true false = false ∧ (Instr.oraImm 0x1234).wellFormed false true = true := by decide
theorem test_wellFormed_refuses_andImm :
    (Instr.andImm 0x1234).wellFormed true false = false ∧ (Instr.andImm 0x1234).wellFormed false true = true := by decide
theorem test_wellFormed_refuses_eorImm :
    (Instr.eorImm 0x1234).wellFormed true false = false ∧ (Instr.eorImm 0x1234).wellFormed false true = true := by decide
theorem test_wellFormed_refuses_adcImm :
    (Instr.adcImm 0x1234).wellFormed true false = false ∧ (Instr.adcImm 0x1234).wellFormed false true = true := by decide
theorem test_wellFormed_refuses_bitImm :
    (Instr.bitImm 0x1234).wellFormed true false = false ∧ (Instr.bitImm 0x1234).wellFormed false true = true := by decide
theorem test_wellFormed_refuses_ldaImm :
    (Instr.ldaImm 0x1234).wellFormed true false = false ∧ (Instr.ldaImm 0x1234).wellFormed false true = true := by decide
theorem test_wellFormed_refuses_cmpImm :
    (Instr.cmpImm 0x1234).wellFormed true false = false ∧ (Instr.cmpImm 0x1234).wellFormed false true = true := by decide
theorem test_wellFormed_refuses_sbcImm :
    (Instr.sbcImm 0x1234).wellFormed true false = false ∧ (Instr.sbcImm 0x1234).wellFormed false true = true := by decide
theorem test_wellFormed_refuses_ldyImm :
    (Instr.ldyImm 0x1234).wellFormed false true = false ∧ (Instr.ldyImm 0x1234).wellFormed true false = true := by decide
theorem test_wellFormed_refuses_ldxImm :
    (Instr.ldxImm 0x1234).wellFormed false true = false ∧ (Instr.ldxImm 0x1234).wellFormed true false = true := by decide
theorem test_wellFormed_refuses_cpyImm :
    (Instr.cpyImm 0x1234).wellFormed false true = false ∧ (Instr.cpyImm 0x1234).wellFormed true false = true := by decide
theorem test_wellFormed_refuses_cpxImm :
    (Instr.cpxImm 0x1234).wellFormed false true = false ∧ (Instr.cpxImm 0x1234).wellFormed true false = true := by decide

/-! ### Decoding (R94, R96): bytes written out from the spec's lists, for every constructor; operand bytes 12H 34H 56H -/

/-- Bytes decode, 8-bit flags, to an instruction with nothing left over. -/
def reads (bytes : List Byte) (i : Instr) : Bool :=
  match decode true true bytes with
  | .ok r => r.1 == i && r.2 == []
  | .error _ => false

/-- R96. -/
theorem test_decode_adc :
    (reads [0x69, 0x12] (.adcImm 0x0012) &&
      reads [0x6D, 0x12, 0x34] (.adcAbs 0x3412) &&
      reads [0x6F, 0x12, 0x34, 0x56] (.adcLong 0x563412) &&
      reads [0x65, 0x12] (.adcDp 0x12) &&
      reads [0x75, 0x12] (.adcDpX 0x12) &&
      reads [0x7D, 0x12, 0x34] (.adcAbsX 0x3412) &&
      reads [0x79, 0x12, 0x34] (.adcAbsY 0x3412) &&
      reads [0x7F, 0x12, 0x34, 0x56] (.adcLongX 0x563412) &&
      reads [0x63, 0x12] (.adcSr 0x12) &&
      reads [0x61, 0x12] (.adcDpXInd 0x12) &&
      reads [0x71, 0x12] (.adcDpIndY 0x12) &&
      reads [0x77, 0x12] (.adcDpLongIndY 0x12) &&
      reads [0x73, 0x12] (.adcSrIndY 0x12) &&
      reads [0x72, 0x12] (.adcDpInd 0x12) &&
      reads [0x67, 0x12] (.adcDpLongInd 0x12)) = true := by decide

/-- R96. -/
theorem test_decode_and :
    (reads [0x29, 0x12] (.andImm 0x0012) &&
      reads [0x2D, 0x12, 0x34] (.andAbs 0x3412) &&
      reads [0x2F, 0x12, 0x34, 0x56] (.andLong 0x563412) &&
      reads [0x25, 0x12] (.andDp 0x12) &&
      reads [0x35, 0x12] (.andDpX 0x12) &&
      reads [0x3D, 0x12, 0x34] (.andAbsX 0x3412) &&
      reads [0x39, 0x12, 0x34] (.andAbsY 0x3412) &&
      reads [0x3F, 0x12, 0x34, 0x56] (.andLongX 0x563412) &&
      reads [0x23, 0x12] (.andSr 0x12) &&
      reads [0x21, 0x12] (.andDpXInd 0x12) &&
      reads [0x31, 0x12] (.andDpIndY 0x12) &&
      reads [0x37, 0x12] (.andDpLongIndY 0x12) &&
      reads [0x33, 0x12] (.andSrIndY 0x12) &&
      reads [0x32, 0x12] (.andDpInd 0x12) &&
      reads [0x27, 0x12] (.andDpLongInd 0x12)) = true := by decide

/-- R96. -/
theorem test_decode_cmp :
    (reads [0xC9, 0x12] (.cmpImm 0x0012) &&
      reads [0xCD, 0x12, 0x34] (.cmpAbs 0x3412) &&
      reads [0xCF, 0x12, 0x34, 0x56] (.cmpLong 0x563412) &&
      reads [0xC5, 0x12] (.cmpDp 0x12) &&
      reads [0xD5, 0x12] (.cmpDpX 0x12) &&
      reads [0xDD, 0x12, 0x34] (.cmpAbsX 0x3412) &&
      reads [0xD9, 0x12, 0x34] (.cmpAbsY 0x3412) &&
      reads [0xDF, 0x12, 0x34, 0x56] (.cmpLongX 0x563412) &&
      reads [0xC3, 0x12] (.cmpSr 0x12) &&
      reads [0xC1, 0x12] (.cmpDpXInd 0x12) &&
      reads [0xD1, 0x12] (.cmpDpIndY 0x12) &&
      reads [0xD7, 0x12] (.cmpDpLongIndY 0x12) &&
      reads [0xD3, 0x12] (.cmpSrIndY 0x12) &&
      reads [0xD2, 0x12] (.cmpDpInd 0x12) &&
      reads [0xC7, 0x12] (.cmpDpLongInd 0x12)) = true := by decide

/-- R96. -/
theorem test_decode_eor :
    (reads [0x49, 0x12] (.eorImm 0x0012) &&
      reads [0x4D, 0x12, 0x34] (.eorAbs 0x3412) &&
      reads [0x4F, 0x12, 0x34, 0x56] (.eorLong 0x563412) &&
      reads [0x45, 0x12] (.eorDp 0x12) &&
      reads [0x55, 0x12] (.eorDpX 0x12) &&
      reads [0x5D, 0x12, 0x34] (.eorAbsX 0x3412) &&
      reads [0x59, 0x12, 0x34] (.eorAbsY 0x3412) &&
      reads [0x5F, 0x12, 0x34, 0x56] (.eorLongX 0x563412) &&
      reads [0x43, 0x12] (.eorSr 0x12) &&
      reads [0x41, 0x12] (.eorDpXInd 0x12) &&
      reads [0x51, 0x12] (.eorDpIndY 0x12) &&
      reads [0x57, 0x12] (.eorDpLongIndY 0x12) &&
      reads [0x53, 0x12] (.eorSrIndY 0x12) &&
      reads [0x52, 0x12] (.eorDpInd 0x12) &&
      reads [0x47, 0x12] (.eorDpLongInd 0x12)) = true := by decide

/-- R96. -/
theorem test_decode_lda :
    (reads [0xA9, 0x12] (.ldaImm 0x0012) &&
      reads [0xAD, 0x12, 0x34] (.ldaAbs 0x3412) &&
      reads [0xAF, 0x12, 0x34, 0x56] (.ldaLong 0x563412) &&
      reads [0xA5, 0x12] (.ldaDp 0x12) &&
      reads [0xB5, 0x12] (.ldaDpX 0x12) &&
      reads [0xBD, 0x12, 0x34] (.ldaAbsX 0x3412) &&
      reads [0xB9, 0x12, 0x34] (.ldaAbsY 0x3412) &&
      reads [0xBF, 0x12, 0x34, 0x56] (.ldaLongX 0x563412) &&
      reads [0xA3, 0x12] (.ldaSr 0x12) &&
      reads [0xA1, 0x12] (.ldaDpXInd 0x12) &&
      reads [0xB1, 0x12] (.ldaDpIndY 0x12) &&
      reads [0xB7, 0x12] (.ldaDpLongIndY 0x12) &&
      reads [0xB3, 0x12] (.ldaSrIndY 0x12) &&
      reads [0xB2, 0x12] (.ldaDpInd 0x12) &&
      reads [0xA7, 0x12] (.ldaDpLongInd 0x12)) = true := by decide

/-- R96. -/
theorem test_decode_ora :
    (reads [0x09, 0x12] (.oraImm 0x0012) &&
      reads [0x0D, 0x12, 0x34] (.oraAbs 0x3412) &&
      reads [0x0F, 0x12, 0x34, 0x56] (.oraLong 0x563412) &&
      reads [0x05, 0x12] (.oraDp 0x12) &&
      reads [0x15, 0x12] (.oraDpX 0x12) &&
      reads [0x1D, 0x12, 0x34] (.oraAbsX 0x3412) &&
      reads [0x19, 0x12, 0x34] (.oraAbsY 0x3412) &&
      reads [0x1F, 0x12, 0x34, 0x56] (.oraLongX 0x563412) &&
      reads [0x03, 0x12] (.oraSr 0x12) &&
      reads [0x01, 0x12] (.oraDpXInd 0x12) &&
      reads [0x11, 0x12] (.oraDpIndY 0x12) &&
      reads [0x17, 0x12] (.oraDpLongIndY 0x12) &&
      reads [0x13, 0x12] (.oraSrIndY 0x12) &&
      reads [0x12, 0x12] (.oraDpInd 0x12) &&
      reads [0x07, 0x12] (.oraDpLongInd 0x12)) = true := by decide

/-- R96. -/
theorem test_decode_sbc :
    (reads [0xE9, 0x12] (.sbcImm 0x0012) &&
      reads [0xED, 0x12, 0x34] (.sbcAbs 0x3412) &&
      reads [0xEF, 0x12, 0x34, 0x56] (.sbcLong 0x563412) &&
      reads [0xE5, 0x12] (.sbcDp 0x12) &&
      reads [0xF5, 0x12] (.sbcDpX 0x12) &&
      reads [0xFD, 0x12, 0x34] (.sbcAbsX 0x3412) &&
      reads [0xF9, 0x12, 0x34] (.sbcAbsY 0x3412) &&
      reads [0xFF, 0x12, 0x34, 0x56] (.sbcLongX 0x563412) &&
      reads [0xE3, 0x12] (.sbcSr 0x12) &&
      reads [0xE1, 0x12] (.sbcDpXInd 0x12) &&
      reads [0xF1, 0x12] (.sbcDpIndY 0x12) &&
      reads [0xF7, 0x12] (.sbcDpLongIndY 0x12) &&
      reads [0xF3, 0x12] (.sbcSrIndY 0x12) &&
      reads [0xF2, 0x12] (.sbcDpInd 0x12) &&
      reads [0xE7, 0x12] (.sbcDpLongInd 0x12)) = true := by decide

/-- R96. -/
theorem test_decode_sta :
    (reads [0x8D, 0x12, 0x34] (.staAbs 0x3412) &&
      reads [0x8F, 0x12, 0x34, 0x56] (.staLong 0x563412) &&
      reads [0x85, 0x12] (.staDp 0x12) &&
      reads [0x95, 0x12] (.staDpX 0x12) &&
      reads [0x9D, 0x12, 0x34] (.staAbsX 0x3412) &&
      reads [0x99, 0x12, 0x34] (.staAbsY 0x3412) &&
      reads [0x9F, 0x12, 0x34, 0x56] (.staLongX 0x563412) &&
      reads [0x83, 0x12] (.staSr 0x12) &&
      reads [0x81, 0x12] (.staDpXInd 0x12) &&
      reads [0x91, 0x12] (.staDpIndY 0x12) &&
      reads [0x97, 0x12] (.staDpLongIndY 0x12) &&
      reads [0x93, 0x12] (.staSrIndY 0x12) &&
      reads [0x92, 0x12] (.staDpInd 0x12) &&
      reads [0x87, 0x12] (.staDpLongInd 0x12)) = true := by decide

/-- R96. -/
theorem test_decode_bit :
    (reads [0x89, 0x12] (.bitImm 0x0012) &&
      reads [0x2C, 0x12, 0x34] (.bitAbs 0x3412) &&
      reads [0x24, 0x12] (.bitDp 0x12) &&
      reads [0x34, 0x12] (.bitDpX 0x12) &&
      reads [0x3C, 0x12, 0x34] (.bitAbsX 0x3412)) = true := by decide

/-- R96. -/
theorem test_decode_ror :
    (reads [0x6E, 0x12, 0x34] (.rorAbs 0x3412) &&
      reads [0x66, 0x12] (.rorDp 0x12) &&
      reads [0x6A] (.rorAcc) &&
      reads [0x76, 0x12] (.rorDpX 0x12) &&
      reads [0x7E, 0x12, 0x34] (.rorAbsX 0x3412)) = true := by decide

/-- R96. -/
theorem test_decode_asl :
    (reads [0x0E, 0x12, 0x34] (.aslAbs 0x3412) &&
      reads [0x06, 0x12] (.aslDp 0x12) &&
      reads [0x0A] (.aslAcc) &&
      reads [0x16, 0x12] (.aslDpX 0x12) &&
      reads [0x1E, 0x12, 0x34] (.aslAbsX 0x3412)) = true := by decide

/-- R96. -/
theorem test_decode_lsr :
    (reads [0x4E, 0x12, 0x34] (.lsrAbs 0x3412) &&
      reads [0x46, 0x12] (.lsrDp 0x12) &&
      reads [0x4A] (.lsrAcc) &&
      reads [0x56, 0x12] (.lsrDpX 0x12) &&
      reads [0x5E, 0x12, 0x34] (.lsrAbsX 0x3412)) = true := by decide

/-- R96. -/
theorem test_decode_rol :
    (reads [0x2E, 0x12, 0x34] (.rolAbs 0x3412) &&
      reads [0x26, 0x12] (.rolDp 0x12) &&
      reads [0x2A] (.rolAcc) &&
      reads [0x36, 0x12] (.rolDpX 0x12) &&
      reads [0x3E, 0x12, 0x34] (.rolAbsX 0x3412)) = true := by decide

/-- R96. -/
theorem test_decode_inc :
    (reads [0xEE, 0x12, 0x34] (.incAbs 0x3412) &&
      reads [0xE6, 0x12] (.incDp 0x12) &&
      reads [0x1A] (.incAcc) &&
      reads [0xF6, 0x12] (.incDpX 0x12) &&
      reads [0xFE, 0x12, 0x34] (.incAbsX 0x3412)) = true := by decide

/-- R96. -/
theorem test_decode_dec :
    (reads [0xCE, 0x12, 0x34] (.decAbs 0x3412) &&
      reads [0xC6, 0x12] (.decDp 0x12) &&
      reads [0x3A] (.decAcc) &&
      reads [0xD6, 0x12] (.decDpX 0x12) &&
      reads [0xDE, 0x12, 0x34] (.decAbsX 0x3412)) = true := by decide

/-- R96. -/
theorem test_decode_rep :
    (reads [0xC2, 0x12] (.rep 0x12)) = true := by decide

/-- R96. -/
theorem test_decode_sep :
    (reads [0xE2, 0x12] (.sep 0x12)) = true := by decide

/-- R96. -/
theorem test_decode_trb :
    (reads [0x1C, 0x12, 0x34] (.trbAbs 0x3412) &&
      reads [0x14, 0x12] (.trbDp 0x12)) = true := by decide

/-- R96. -/
theorem test_decode_tsb :
    (reads [0x0C, 0x12, 0x34] (.tsbAbs 0x3412) &&
      reads [0x04, 0x12] (.tsbDp 0x12)) = true := by decide

/-- R96. -/
theorem test_decode_ldx :
    (reads [0xA2, 0x12] (.ldxImm 0x0012) &&
      reads [0xAE, 0x12, 0x34] (.ldxAbs 0x3412) &&
      reads [0xA6, 0x12] (.ldxDp 0x12) &&
      reads [0xB6, 0x12] (.ldxDpY 0x12) &&
      reads [0xBE, 0x12, 0x34] (.ldxAbsY 0x3412)) = true := by decide

/-- R96. -/
theorem test_decode_ldy :
    (reads [0xA0, 0x12] (.ldyImm 0x0012) &&
      reads [0xAC, 0x12, 0x34] (.ldyAbs 0x3412) &&
      reads [0xA4, 0x12] (.ldyDp 0x12) &&
      reads [0xB4, 0x12] (.ldyDpX 0x12) &&
      reads [0xBC, 0x12, 0x34] (.ldyAbsX 0x3412)) = true := by decide

/-- R96. -/
theorem test_decode_cpx :
    (reads [0xE0, 0x12] (.cpxImm 0x0012) &&
      reads [0xEC, 0x12, 0x34] (.cpxAbs 0x3412) &&
      reads [0xE4, 0x12] (.cpxDp 0x12)) = true := by decide

/-- R96. -/
theorem test_decode_cpy :
    (reads [0xC0, 0x12] (.cpyImm 0x0012) &&
      reads [0xCC, 0x12, 0x34] (.cpyAbs 0x3412) &&
      reads [0xC4, 0x12] (.cpyDp 0x12)) = true := by decide

/-- R96. -/
theorem test_decode_stx :
    (reads [0x8E, 0x12, 0x34] (.stxAbs 0x3412) &&
      reads [0x86, 0x12] (.stxDp 0x12) &&
      reads [0x96, 0x12] (.stxDpY 0x12)) = true := by decide

/-- R96. -/
theorem test_decode_sty :
    (reads [0x8C, 0x12, 0x34] (.styAbs 0x3412) &&
      reads [0x84, 0x12] (.styDp 0x12) &&
      reads [0x94, 0x12] (.styDpX 0x12)) = true := by decide

/-- R96. -/
theorem test_decode_stz :
    (reads [0x9C, 0x12, 0x34] (.stzAbs 0x3412) &&
      reads [0x64, 0x12] (.stzDp 0x12) &&
      reads [0x74, 0x12] (.stzDpX 0x12) &&
      reads [0x9E, 0x12, 0x34] (.stzAbsX 0x3412)) = true := by decide

/-- R96. -/
theorem test_decode_implied :
    (reads [0xE8] (.inx) &&
      reads [0xC8] (.iny) &&
      reads [0xCA] (.dex) &&
      reads [0x88] (.dey) &&
      reads [0xAA] (.tax) &&
      reads [0xA8] (.tay) &&
      reads [0xBA] (.tsx) &&
      reads [0x8A] (.txa) &&
      reads [0x9A] (.txs) &&
      reads [0x9B] (.txy) &&
      reads [0x98] (.tya) &&
      reads [0xBB] (.tyx) &&
      reads [0x18] (.clc) &&
      reads [0xD8] (.cld) &&
      reads [0x58] (.cli) &&
      reads [0xB8] (.clv) &&
      reads [0x38] (.sec) &&
      reads [0xF8] (.sed) &&
      reads [0x78] (.sei) &&
      reads [0x5B] (.tcd) &&
      reads [0x1B] (.tcs) &&
      reads [0x7B] (.tdc) &&
      reads [0x3B] (.tsc) &&
      reads [0xEB] (.xba) &&
      reads [0xFB] (.xce) &&
      reads [0xDB] (.stp) &&
      reads [0xCB] (.wai) &&
      reads [0x42, 0x12] (.wdm 0x12) &&
      reads [0xEA] (.nop)) = true := by decide

/-- R96. -/
theorem test_decode_stack :
    (reads [0x48] (.pha) &&
      reads [0x8B] (.phb) &&
      reads [0x0B] (.phd) &&
      reads [0x4B] (.phk) &&
      reads [0x08] (.php) &&
      reads [0xDA] (.phx) &&
      reads [0x5A] (.phy) &&
      reads [0x68] (.pla) &&
      reads [0xAB] (.plb) &&
      reads [0x2B] (.pld) &&
      reads [0x28] (.plp) &&
      reads [0xFA] (.plx) &&
      reads [0x7A] (.ply) &&
      reads [0xF4, 0x12, 0x34] (.pea 0x3412) &&
      reads [0xD4, 0x12] (.pei 0x12) &&
      reads [0x62, 0x12, 0x34] (.per 0x3412) &&
      reads [0x00, 0x12] (.brk 0x12) &&
      reads [0x02, 0x12] (.cop 0x12) &&
      reads [0x40] (.rti) &&
      reads [0x6B] (.rtl) &&
      reads [0x60] (.rts)) = true := by decide

/-- R96. -/
theorem test_decode_relative_branches :
    (reads [0x90, 0x12] (.bcc 0x12) &&
      reads [0xB0, 0x12] (.bcs 0x12) &&
      reads [0xF0, 0x12] (.beq 0x12) &&
      reads [0x30, 0x12] (.bmi 0x12) &&
      reads [0xD0, 0x12] (.bne 0x12) &&
      reads [0x10, 0x12] (.bpl 0x12) &&
      reads [0x80, 0x12] (.bra 0x12) &&
      reads [0x82, 0x12, 0x34] (.brl 0x3412) &&
      reads [0x50, 0x12] (.bvc 0x12) &&
      reads [0x70, 0x12] (.bvs 0x12)) = true := by decide

/-- R96. -/
theorem test_decode_jumps_and_calls :
    (reads [0xDC, 0x12, 0x34] (.jml 0x3412) &&
      reads [0x4C, 0x12, 0x34] (.jmpAbs 0x3412) &&
      reads [0x5C, 0x12, 0x34, 0x56] (.jmpLong 0x563412) &&
      reads [0x6C, 0x12, 0x34] (.jmpAbsInd 0x3412) &&
      reads [0x7C, 0x12, 0x34] (.jmpAbsXInd 0x3412) &&
      reads [0x22, 0x12, 0x34, 0x56] (.jsl 0x563412) &&
      reads [0x20, 0x12, 0x34] (.jsrAbs 0x3412) &&
      reads [0xFC, 0x12, 0x34] (.jsrAbsXInd 0x3412)) = true := by decide

/-- R96. -/
theorem test_decode_block_moves :
    (reads [0x54, 0x12, 0x34] (.mvn 0x12 0x34) &&
      reads [0x44, 0x12, 0x34] (.mvp 0x12 0x34)) = true := by decide

/-- R93: the width-dependent immediates are one byte longer when their flag is 0. -/
theorem test_decode_wide_immediates :
    decode false true [0xA9, 0x34, 0x12] = .ok (.ldaImm 0x1234, []) ∧
    decode true false [0xA9, 0x34, 0x12] = .ok (.ldaImm 0x0034, [0x12]) ∧
    decode true false [0xA2, 0x00, 0x80] = .ok (.ldxImm 0x8000, []) ∧
    decode false true [0xA2, 0x00, 0x80] = .ok (.ldxImm 0x0000, [0x80]) := ⟨rfl, rfl, rfl, rfl⟩

/-- Bytes can only be too few (R90, R97). -/
theorem test_decode_too_short :
    decode true true [] = .error .noOpcode ∧ decode true true [0x6D, 0x00] = .error (.truncated 0x6D) := ⟨rfl, rfl⟩

/-- The instruction of an opcode followed by zero bytes. -/
def cellInstr (h l : Nat) : Instr := (opRow (BitVec.ofNat 8 (16 * h + l))).build true true 0 0 0

/-- One row of the matrix as the spec prints it. -/
def rowText (h : Nat) : List (String × String) :=
  (List.range 16).map fun l => ((cellInstr h l).mnemonic.name, (cellInstr h l).mode.abbr)

/-- R95, row 0. -/
theorem test_matrix_row_0 : rowText 0x0 =
    [("BRK", "s"), ("ORA", "(d,x)"), ("COP", "s"), ("ORA", "d,s"),
     ("TSB", "d"), ("ORA", "d"), ("ASL", "d"), ("ORA", "[d]"),
     ("PHP", "s"), ("ORA", "#"), ("ASL", "A"), ("PHD", "s"),
     ("TSB", "a"), ("ORA", "a"), ("ASL", "a"), ("ORA", "al")] := by decide

/-- R95, row 1. -/
theorem test_matrix_row_1 : rowText 0x1 =
    [("BPL", "r"), ("ORA", "(d),y"), ("ORA", "(d)"), ("ORA", "(d,s),y"),
     ("TRB", "d"), ("ORA", "d,x"), ("ASL", "d,x"), ("ORA", "[d],y"),
     ("CLC", "i"), ("ORA", "a,y"), ("INC", "A"), ("TCS", "i"),
     ("TRB", "a"), ("ORA", "a,x"), ("ASL", "a,x"), ("ORA", "al,x")] := by decide

/-- R95, row 2. -/
theorem test_matrix_row_2 : rowText 0x2 =
    [("JSR", "a"), ("AND", "(d,x)"), ("JSL", "al"), ("AND", "d,s"),
     ("BIT", "d"), ("AND", "d"), ("ROL", "d"), ("AND", "[d]"),
     ("PLP", "s"), ("AND", "#"), ("ROL", "A"), ("PLD", "s"),
     ("BIT", "a"), ("AND", "a"), ("ROL", "a"), ("AND", "al")] := by decide

/-- R95, row 3. -/
theorem test_matrix_row_3 : rowText 0x3 =
    [("BMI", "r"), ("AND", "(d),y"), ("AND", "(d)"), ("AND", "(d,s),y"),
     ("BIT", "d,x"), ("AND", "d,x"), ("ROL", "d,x"), ("AND", "[d],y"),
     ("SEC", "i"), ("AND", "a,y"), ("DEC", "A"), ("TSC", "i"),
     ("BIT", "a,x"), ("AND", "a,x"), ("ROL", "a,x"), ("AND", "al,x")] := by decide

/-- R95, row 4. -/
theorem test_matrix_row_4 : rowText 0x4 =
    [("RTI", "s"), ("EOR", "(d,x)"), ("WDM", "i"), ("EOR", "d,s"),
     ("MVP", "xyc"), ("EOR", "d"), ("LSR", "d"), ("EOR", "[d]"),
     ("PHA", "s"), ("EOR", "#"), ("LSR", "A"), ("PHK", "s"),
     ("JMP", "a"), ("EOR", "a"), ("LSR", "a"), ("EOR", "al")] := by decide

/-- R95, row 5. -/
theorem test_matrix_row_5 : rowText 0x5 =
    [("BVC", "r"), ("EOR", "(d),y"), ("EOR", "(d)"), ("EOR", "(d,s),y"),
     ("MVN", "xyc"), ("EOR", "d,x"), ("LSR", "d,x"), ("EOR", "[d],y"),
     ("CLI", "i"), ("EOR", "a,y"), ("PHY", "s"), ("TCD", "i"),
     ("JMP", "al"), ("EOR", "a,x"), ("LSR", "a,x"), ("EOR", "al,x")] := by decide

/-- R95, row 6. -/
theorem test_matrix_row_6 : rowText 0x6 =
    [("RTS", "s"), ("ADC", "(d,x)"), ("PER", "s"), ("ADC", "d,s"),
     ("STZ", "d"), ("ADC", "d"), ("ROR", "d"), ("ADC", "[d]"),
     ("PLA", "s"), ("ADC", "#"), ("ROR", "A"), ("RTL", "s"),
     ("JMP", "(a)"), ("ADC", "a"), ("ROR", "a"), ("ADC", "al")] := by decide

/-- R95, row 7. -/
theorem test_matrix_row_7 : rowText 0x7 =
    [("BVS", "r"), ("ADC", "(d),y"), ("ADC", "(d)"), ("ADC", "(d,s),y"),
     ("STZ", "d,x"), ("ADC", "d,x"), ("ROR", "d,x"), ("ADC", "[d],y"),
     ("SEI", "i"), ("ADC", "a,y"), ("PLY", "s"), ("TDC", "i"),
     ("JMP", "(a,x)"), ("ADC", "a,x"), ("ROR", "a,x"), ("ADC", "al,x")] := by decide

/-- R95, row 8. -/
theorem test_matrix_row_8 : rowText 0x8 =
    [("BRA", "r"), ("STA", "(d,x)"), ("BRL", "rl"), ("STA", "d,s"),
     ("STY", "d"), ("STA", "d"), ("STX", "d"), ("STA", "[d]"),
     ("DEY", "i"), ("BIT", "#"), ("TXA", "i"), ("PHB", "s"),
     ("STY", "a"), ("STA", "a"), ("STX", "a"), ("STA", "al")] := by decide

/-- R95, row 9. -/
theorem test_matrix_row_9 : rowText 0x9 =
    [("BCC", "r"), ("STA", "(d),y"), ("STA", "(d)"), ("STA", "(d,s),y"),
     ("STY", "d,x"), ("STA", "d,x"), ("STX", "d,y"), ("STA", "[d],y"),
     ("TYA", "i"), ("STA", "a,y"), ("TXS", "i"), ("TXY", "i"),
     ("STZ", "a"), ("STA", "a,x"), ("STZ", "a,x"), ("STA", "al,x")] := by decide

/-- R95, row A. -/
theorem test_matrix_row_A : rowText 0xA =
    [("LDY", "#"), ("LDA", "(d,x)"), ("LDX", "#"), ("LDA", "d,s"),
     ("LDY", "d"), ("LDA", "d"), ("LDX", "d"), ("LDA", "[d]"),
     ("TAY", "i"), ("LDA", "#"), ("TAX", "i"), ("PLB", "s"),
     ("LDY", "a"), ("LDA", "a"), ("LDX", "a"), ("LDA", "al")] := by decide

/-- R95, row B. -/
theorem test_matrix_row_B : rowText 0xB =
    [("BCS", "r"), ("LDA", "(d),y"), ("LDA", "(d)"), ("LDA", "(d,s),y"),
     ("LDY", "d,x"), ("LDA", "d,x"), ("LDX", "d,y"), ("LDA", "[d],y"),
     ("CLV", "i"), ("LDA", "a,y"), ("TSX", "i"), ("TYX", "i"),
     ("LDY", "a,x"), ("LDA", "a,x"), ("LDX", "a,y"), ("LDA", "al,x")] := by decide

/-- R95, row C. -/
theorem test_matrix_row_C : rowText 0xC =
    [("CPY", "#"), ("CMP", "(d,x)"), ("REP", "#"), ("CMP", "d,s"),
     ("CPY", "d"), ("CMP", "d"), ("DEC", "d"), ("CMP", "[d]"),
     ("INY", "i"), ("CMP", "#"), ("DEX", "i"), ("WAI", "i"),
     ("CPY", "a"), ("CMP", "a"), ("DEC", "a"), ("CMP", "al")] := by decide

/-- R95, row D. -/
theorem test_matrix_row_D : rowText 0xD =
    [("BNE", "r"), ("CMP", "(d),y"), ("CMP", "(d)"), ("CMP", "(d,s),y"),
     ("PEI", "s"), ("CMP", "d,x"), ("DEC", "d,x"), ("CMP", "[d],y"),
     ("CLD", "i"), ("CMP", "a,y"), ("PHX", "s"), ("STP", "i"),
     ("JML", "(a)"), ("CMP", "a,x"), ("DEC", "a,x"), ("CMP", "al,x")] := by decide

/-- R95, row E. -/
theorem test_matrix_row_E : rowText 0xE =
    [("CPX", "#"), ("SBC", "(d,x)"), ("SEP", "#"), ("SBC", "d,s"),
     ("CPX", "d"), ("SBC", "d"), ("INC", "d"), ("SBC", "[d]"),
     ("INX", "i"), ("SBC", "#"), ("NOP", "i"), ("XBA", "i"),
     ("CPX", "a"), ("SBC", "a"), ("INC", "a"), ("SBC", "al")] := by decide

/-- R95, row F. -/
theorem test_matrix_row_F : rowText 0xF =
    [("BEQ", "r"), ("SBC", "(d),y"), ("SBC", "(d)"), ("SBC", "(d,s),y"),
     ("PEA", "s"), ("SBC", "d,x"), ("INC", "d,x"), ("SBC", "[d],y"),
     ("SED", "i"), ("SBC", "a,y"), ("PLX", "s"), ("XCE", "i"),
     ("JSR", "(a,x)"), ("SBC", "a,x"), ("INC", "a,x"), ("SBC", "al,x")] := by decide

/-- The minimum clocks of one row (R411, field min_cycles of the opcode table). -/
def rowClocks (h : Nat) : List Nat := (List.range 16).map fun l => minClocks (cellInstr h l)

theorem test_min_clocks_0 : (List.range 8).map (fun h => rowClocks (0 + h)) =
    [[7, 6, 7, 4, 5, 3, 5, 6, 3, 2, 2, 4, 6, 4, 6, 5],
     [2, 5, 5, 7, 5, 4, 6, 6, 2, 4, 2, 2, 6, 4, 7, 5],
     [6, 6, 8, 4, 3, 3, 5, 6, 4, 2, 2, 5, 4, 4, 6, 5],
     [2, 5, 5, 7, 4, 4, 6, 6, 2, 4, 2, 2, 4, 4, 7, 5],
     [6, 6, 2, 4, 7, 3, 5, 6, 3, 2, 2, 3, 3, 4, 6, 5],
     [2, 5, 5, 7, 7, 4, 6, 6, 2, 4, 3, 2, 4, 4, 7, 5],
     [6, 6, 6, 4, 3, 3, 5, 6, 4, 2, 2, 6, 5, 4, 6, 5],
     [2, 5, 5, 7, 4, 4, 6, 6, 2, 4, 4, 2, 5, 4, 7, 5]] := by decide

theorem test_min_clocks_8 : (List.range 8).map (fun h => rowClocks (8 + h)) =
    [[3, 6, 4, 4, 3, 3, 3, 6, 2, 2, 2, 3, 4, 4, 4, 5],
     [2, 6, 5, 7, 4, 4, 4, 6, 2, 5, 2, 2, 4, 5, 4, 5],
     [2, 6, 2, 4, 3, 3, 3, 6, 2, 2, 2, 4, 4, 4, 4, 5],
     [2, 5, 5, 7, 4, 4, 4, 6, 2, 4, 2, 2, 4, 4, 4, 5],
     [2, 6, 3, 4, 3, 3, 5, 6, 2, 2, 2, 3, 4, 4, 6, 5],
     [2, 5, 5, 7, 6, 4, 6, 6, 2, 4, 3, 3, 6, 4, 7, 5],
     [2, 6, 3, 4, 3, 3, 5, 6, 2, 2, 2, 3, 4, 4, 6, 5],
     [2, 5, 5, 7, 5, 4, 6, 6, 2, 4, 4, 2, 6, 4, 7, 5]] := by decide

/-! ### Single steps: the vectors of spec/95_test_vectors.md -/

/-- The flags of a byte N V M X D I Z C (the vectors' `P=`). -/
def flagsOf (p : Byte) : Status := Status.unpack false p State.reset.regs.p

/-- The flags as such a byte. -/
def flagByte (t : State) : Byte := t.regs.p.pack false false

/-- The vectors' start state: native mode, S = 01FFH, 00:8000H, everything else 0. -/
def native (p : Byte) : State :=
  { State.reset with
    regs := { c := 0, x := 0, y := 0, sp := 0x01FF, dr := 0, dbr := 0, pbr := 0, pc := 0x8000, p := flagsOf p, e := false } }

/-- The same in emulation mode. -/
def emulation (p : Byte) : State := (native p).onRegs fun r => { r with e := true }

/-- One step with the code placed at PBR:PC. -/
def vec (s : State) (code : List Byte) (good : State → Bool) : Bool :=
  match step (s.placeBytes 0 code) with
  | .next t => good t
  | .fault _ => false
  | .refused _ => false

end Sys2Proof.Tests

namespace Sys2Proof.Machine

/-- A test's start registers. -/
def State.withRegs (s : State) (f : Regs → Regs) : State := s.onRegs f

/-- A test's memory. -/
def State.withCells (s : State) (cells : List (Nat × Byte)) : State :=
  cells.foldl (fun t c => { t with mem := t.mem.set c.1 c.2 }) s

/-- A test's parameters. -/
def State.withParams (s : State) (f : Params → Params) : State := { s with params := f s.params }

end Sys2Proof.Machine

namespace Sys2Proof.Tests

open Sys2Proof.Machine

/-- A1; A3. -/
theorem test_adc :
    (vec (((native 0x30).withRegs (fun r => { r with c := 0x007F }))) [0x69, 0x01] (fun t =>
      flagByte t == 0xF0 && t.regs.e == false && t.regs.c == 0x0080 && t.regs.pc == 0x8002) &&
    vec (((native 0x00).withRegs (fun r => { r with c := 0x7FFF }))) [0x69, 0x01, 0x00] (fun t =>
      flagByte t == 0xC0 && t.regs.e == false && t.regs.c == 0x8000 && t.regs.pc == 0x8003)) = true := by decide

/-- A10; A12. -/
theorem test_adc_decimal :
    (vec (((native 0x38).withRegs (fun r => { r with c := 0x0099 }))) [0x69, 0x01] (fun t =>
      t.regs.p.n == false && t.regs.p.m == true && t.regs.p.x == true && t.regs.p.d == true && t.regs.p.i == false && t.regs.p.z == true && t.regs.p.c == true && t.regs.e == false && t.regs.c == 0x0000) &&
    vec (((native 0x08).withRegs (fun r => { r with c := 0x1999 }))) [0x69, 0x01, 0x00] (fun t =>
      t.regs.p.n == false && t.regs.p.m == false && t.regs.p.x == false && t.regs.p.d == true && t.regs.p.i == false && t.regs.p.z == false && t.regs.p.c == false && t.regs.e == false && t.regs.c == 0x2000)) = true := by decide

/-- A6; A7. -/
theorem test_sbc :
    (vec (((native 0x31).withRegs (fun r => { r with c := 0x0080 }))) [0xE9, 0x01] (fun t =>
      flagByte t == 0x71 && t.regs.e == false && t.regs.c == 0x007F) &&
    vec (((native 0x00).withRegs (fun r => { r with c := 0x0000 }))) [0xE9, 0x01, 0x00] (fun t =>
      flagByte t == 0x80 && t.regs.e == false && t.regs.c == 0xFFFE)) = true := by decide

/-- A11; A13. -/
theorem test_sbc_decimal :
    (vec (((native 0x39).withRegs (fun r => { r with c := 0x0010 }))) [0xE9, 0x01] (fun t =>
      t.regs.p.n == false && t.regs.p.m == true && t.regs.p.x == true && t.regs.p.d == true && t.regs.p.i == false && t.regs.p.z == false && t.regs.p.c == true && t.regs.e == false && t.regs.c == 0x0009) &&
    vec (((native 0x39).withRegs (fun r => { r with c := 0x0000 }))) [0xE9, 0x01] (fun t =>
      t.regs.p.n == true && t.regs.p.m == true && t.regs.p.x == true && t.regs.p.d == true && t.regs.p.i == false && t.regs.p.z == false && t.regs.p.c == false && t.regs.e == false && t.regs.c == 0x0099)) = true := by decide

/-- A8; A9. -/
theorem test_cmp :
    (vec (((native 0x30).withRegs (fun r => { r with c := 0x0020 }))) [0xC9, 0x20] (fun t =>
      flagByte t == 0x33 && t.regs.e == false && t.regs.c == 0x0020) &&
    vec (((native 0x00).withRegs (fun r => { r with c := 0x1000 }))) [0xC9, 0x00, 0x20] (fun t =>
      flagByte t == 0x80 && t.regs.e == false && t.regs.c == 0x1000)) = true := by decide

/-- A15; A16. -/
theorem test_lda_wraps :
    (vec (((native 0x00).withRegs (fun r => { r with dr := 0xFFFF })).withCells [(0x00FFFF, 0x34), (0x000000, 0x12), (0x010000, 0x99)]) [0xA5, 0x00] (fun t =>
      flagByte t == 0x00 && t.regs.e == false && t.regs.c == 0x1234) &&
    vec (((native 0x00).withRegs (fun r => { r with dbr := 0x01 })).withCells [(0x01FFFF, 0x34), (0x020000, 0x12), (0x010000, 0x99)]) [0xAD, 0xFF, 0xFF] (fun t =>
      flagByte t == 0x00 && t.regs.e == false && t.regs.c == 0x1234)) = true := by decide

/-- A17; A18. -/
theorem test_lda_indirect :
    (vec (((native 0x20).withRegs (fun r => { r with dbr := 0x01, y := 0x0001 })).withCells [(0x000020, 0xFF), (0x000021, 0xFF), (0x020000, 0x5A)]) [0xB1, 0x20] (fun t =>
      flagByte t == 0x20 && t.regs.e == false && t.regs.c == 0x005A) &&
    vec (((native 0x30).withRegs (fun r => { r with dbr := 0x01, y := 0x0010 })).withCells [(0x000020, 0xF8), (0x000021, 0xFF), (0x000022, 0x7E), (0x7F0008, 0xA5)]) [0xB7, 0x20] (fun t =>
      flagByte t == 0xB0 && t.regs.e == false && t.regs.c == 0x00A5)) = true := by decide

/-- A19. -/
theorem test_lda_stack_relative :
    (vec (((native 0x20).withRegs (fun r => { r with dbr := 0x02, sp := 0x01F0, y := 0x0002 })).withCells [(0x0001F3, 0x00), (0x0001F4, 0x40), (0x024002, 0x77)]) [0xB3, 0x03] (fun t =>
      flagByte t == 0x20 && t.regs.e == false && t.regs.c == 0x0077)) = true := by decide

/-- A20. -/
theorem test_lda_long_indexed :
    (vec (((native 0x20).withRegs (fun r => { r with x := 0x0100 })).withCells [(0x7F0000, 0x42)]) [0xBF, 0x00, 0xFF, 0x7E] (fun t =>
      flagByte t == 0x20 && t.regs.e == false && t.regs.c == 0x0042 && t.regs.pc == 0x8004)) = true := by decide

/-- A21; A22. -/
theorem test_lda_indexed_indirect :
    (vec (((native 0x30).withRegs (fun r => { r with dbr := 0x02, x := 0x0004 })).withCells [(0x000014, 0x00), (0x000015, 0x90), (0x029000, 0x00)]) [0xA1, 0x10] (fun t =>
      flagByte t == 0x32 && t.regs.e == false && t.regs.c == 0x0000) &&
    vec (((native 0x30).withRegs (fun r => { r with dbr := 0x02, dr := 0x0100 })).withCells [(0x000110, 0x00), (0x000111, 0x90), (0x029000, 0x80)]) [0xB2, 0x10] (fun t =>
      flagByte t == 0xB0 && t.regs.e == false && t.regs.c == 0x0080)) = true := by decide

/-- A23. -/
theorem test_lda_indirect_long :
    (vec ((native 0x00).withCells [(0x000010, 0xFF), (0x000011, 0xFF), (0x000012, 0x12), (0x12FFFF, 0xCD), (0x130000, 0xAB)]) [0xA7, 0x10] (fun t =>
      flagByte t == 0x80 && t.regs.e == false && t.regs.c == 0xABCD)) = true := by decide

/-- A24; A25. -/
theorem test_sta :
    (vec (((native 0x00).withRegs (fun r => { r with c := 0xBEEF, sp := 0x01F0 }))) [0x83, 0x01] (fun t =>
      flagByte t == 0x00 && t.regs.e == false && t.regs.sp == 0x01F0 && t.byteAt 0x0001F1 == 0xEF && t.byteAt 0x0001F2 == 0xBE) &&
    vec (((native 0x20).withRegs (fun r => { r with c := 0x00AA, y := 0x0005, dbr := 0x7E }))) [0x99, 0x00, 0x20] (fun t =>
      flagByte t == 0x20 && t.regs.e == false && t.byteAt 0x7E2005 == 0xAA && t.byteAt 0x7E2006 == 0x00)) = true := by decide

/-- A26. -/
theorem test_and :
    (vec (((native 0x00).withRegs (fun r => { r with c := 0x1234 }))) [0x29, 0x0F, 0xF0] (fun t =>
      flagByte t == 0x00 && t.regs.e == false && t.regs.c == 0x1004)) = true := by decide

/-- A27. -/
theorem test_ora :
    (vec (((native 0x30).withRegs (fun r => { r with c := 0xFF00 }))) [0x09, 0x00] (fun t =>
      flagByte t == 0x32 && t.regs.e == false && t.regs.c == 0xFF00)) = true := by decide

/-- A28. -/
theorem test_eor :
    (vec (((native 0x30).withRegs (fun r => { r with c := 0x0055 }))) [0x49, 0x55] (fun t =>
      flagByte t == 0x32 && t.regs.e == false && t.regs.c == 0x0000)) = true := by decide

/-- B1. -/
theorem test_asl :
    (vec ((native 0x00).withCells [(0x002000, 0x01), (0x002001, 0x40)]) [0x0E, 0x00, 0x20] (fun t =>
      flagByte t == 0x80 && t.regs.e == false && t.byteAt 0x002000 == 0x02 && t.byteAt 0x002001 == 0x80)) = true := by decide

/-- B2. -/
theorem test_ror :
    (vec (((native 0x01).withRegs (fun r => { r with c := 0x0001 }))) [0x6A] (fun t =>
      flagByte t == 0x81 && t.regs.e == false && t.regs.c == 0x8000)) = true := by decide

/-- B3. -/
theorem test_lsr :
    (vec ((native 0x30).withCells [(0x000010, 0x01)]) [0x46, 0x10] (fun t =>
      flagByte t == 0x33 && t.regs.e == false && t.byteAt 0x000010 == 0x00)) = true := by decide

/-- B4. -/
theorem test_rol :
    (vec (((native 0x00).withRegs (fun r => { r with c := 0x8000 }))) [0x2A] (fun t =>
      flagByte t == 0x03 && t.regs.e == false && t.regs.c == 0x0000)) = true := by decide

/-- B5; B6. -/
theorem test_inc :
    (vec ((native 0x30).withCells [(0x000010, 0xFF), (0x000011, 0x07)]) [0xE6, 0x10] (fun t =>
      flagByte t == 0x32 && t.regs.e == false && t.byteAt 0x000010 == 0x00 && t.byteAt 0x000011 == 0x07) &&
    vec ((native 0x00).withCells [(0x002000, 0xFF), (0x002001, 0x00)]) [0xEE, 0x00, 0x20] (fun t =>
      flagByte t == 0x00 && t.regs.e == false && t.byteAt 0x002000 == 0x00 && t.byteAt 0x002001 == 0x01)) = true := by decide

/-- B7. -/
theorem test_dec :
    (vec (((native 0x30).withRegs (fun r => { r with x := 0x0003 }))) [0xDE, 0x00, 0x20] (fun t =>
      flagByte t == 0xB0 && t.regs.e == false && t.byteAt 0x002003 == 0xFF)) = true := by decide

/-- B8; B9. -/
theorem test_bit :
    (vec (((native 0xF0).withRegs (fun r => { r with c := 0x00F0 }))) [0x89, 0x0F] (fun t =>
      flagByte t == 0xF2 && t.regs.e == false && t.regs.pc == 0x8002) &&
    vec (((native 0x00).withRegs (fun r => { r with c := 0xFFFF })).withCells [(0x002000, 0x00), (0x002001, 0x40)]) [0x2C, 0x00, 0x20] (fun t =>
      flagByte t == 0x40 && t.regs.e == false)) = true := by decide

/-- B10; B12. -/
theorem test_tsb :
    (vec (((native 0x30).withRegs (fun r => { r with c := 0x000F })).withCells [(0x000010, 0x3C)]) [0x04, 0x10] (fun t =>
      flagByte t == 0x30 && t.regs.e == false && t.byteAt 0x000010 == 0x3F) &&
    vec (((native 0x30).withRegs (fun r => { r with c := 0x00C0 })).withCells [(0x002000, 0x3C)]) [0x0C, 0x00, 0x20] (fun t =>
      flagByte t == 0x32 && t.regs.e == false && t.byteAt 0x002000 == 0xFC)) = true := by decide

/-- B11; B13. -/
theorem test_trb :
    (vec (((native 0x30).withRegs (fun r => { r with c := 0x000F })).withCells [(0x000010, 0x3C)]) [0x14, 0x10] (fun t =>
      flagByte t == 0x30 && t.regs.e == false && t.byteAt 0x000010 == 0x30) &&
    vec (((native 0x00).withRegs (fun r => { r with c := 0xFF00 })).withCells [(0x002000, 0x34), (0x002001, 0x12)]) [0x1C, 0x00, 0x20] (fun t =>
      flagByte t == 0x00 && t.regs.e == false && t.byteAt 0x002000 == 0x34 && t.byteAt 0x002001 == 0x00)) = true := by decide

/-- B14; B18. -/
theorem test_sep :
    (vec (((native 0x00).withRegs (fun r => { r with x := 0x1234, y := 0xABCD }))) [0xE2, 0x10] (fun t =>
      flagByte t == 0x10 && t.regs.e == false && t.regs.x == 0x0034 && t.regs.y == 0x00CD) &&
    vec ((emulation 0x30)) [0xE2, 0x30] (fun t =>
      flagByte t == 0x30 && t.regs.e == true)) = true := by decide

/-- B16; B17. -/
theorem test_rep :
    (vec ((native 0xFF)) [0xC2, 0xFF] (fun t =>
      flagByte t == 0x00 && t.regs.e == false) &&
    vec ((emulation 0xFB)) [0xC2, 0x30] (fun t =>
      flagByte t == 0xFB && t.regs.e == true)) = true := by decide

/-- X1; X4. -/
theorem test_ldx :
    (vec ((native 0x20)) [0xA2, 0x00, 0x80] (fun t =>
      flagByte t == 0xA0 && t.regs.e == false && t.regs.x == 0x8000 && t.regs.pc == 0x8003) &&
    vec (((native 0x10).withRegs (fun r => { r with y := 0x0005, dr := 0x0200 })).withCells [(0x000215, 0x7F)]) [0xB6, 0x10] (fun t =>
      flagByte t == 0x10 && t.regs.e == false && t.regs.x == 0x007F)) = true := by decide

/-- X3. -/
theorem test_ldy :
    (vec (((native 0x00).withRegs (fun r => { r with x := 0x0002 })).withCells [(0x002002, 0xCD), (0x002003, 0xAB)]) [0xBC, 0x00, 0x20] (fun t =>
      flagByte t == 0x80 && t.regs.e == false && t.regs.y == 0xABCD)) = true := by decide

/-- X5; X7. -/
theorem test_cpx :
    (vec (((native 0x30).withRegs (fun r => { r with x := 0x0010 }))) [0xE0, 0x20] (fun t =>
      flagByte t == 0xB0 && t.regs.e == false && t.regs.x == 0x0010) &&
    vec (((native 0x10).withRegs (fun r => { r with x := 0x0080 })).withCells [(0x002000, 0x7F)]) [0xEC, 0x00, 0x20] (fun t =>
      flagByte t == 0x11 && t.regs.e == false)) = true := by decide

/-- X6. -/
theorem test_cpy :
    (vec (((native 0x00).withRegs (fun r => { r with y := 0x1234 }))) [0xC0, 0x34, 0x12] (fun t =>
      flagByte t == 0x03 && t.regs.e == false)) = true := by decide

/-- X8. -/
theorem test_stx :
    (vec (((native 0x00).withRegs (fun r => { r with x := 0xBEEF, y := 0x0001 }))) [0x96, 0x10] (fun t =>
      flagByte t == 0x00 && t.regs.e == false && t.byteAt 0x000011 == 0xEF && t.byteAt 0x000012 == 0xBE)) = true := by decide

/-- X9. -/
theorem test_sty :
    (vec (((native 0x10).withRegs (fun r => { r with y := 0x0042, dbr := 0x7E }))) [0x8C, 0x00, 0x20] (fun t =>
      flagByte t == 0x10 && t.regs.e == false && t.byteAt 0x7E2000 == 0x42)) = true := by decide

/-- X10; X11. -/
theorem test_stz :
    (vec ((native 0x10).withCells [(0x002000, 0x11), (0x002001, 0x22), (0x002002, 0x33)]) [0x9C, 0x00, 0x20] (fun t =>
      flagByte t == 0x10 && t.regs.e == false && t.byteAt 0x002000 == 0x00 && t.byteAt 0x002001 == 0x00 && t.byteAt 0x002002 == 0x33) &&
    vec (((native 0x30).withRegs (fun r => { r with x := 0x00F0 })).withCells [(0x000100, 0x11)]) [0x74, 0x10] (fun t =>
      flagByte t == 0x30 && t.regs.e == false && t.byteAt 0x000100 == 0x00)) = true := by decide

/-- I1; I2. -/
theorem test_inx :
    (vec (((native 0x10).withRegs (fun r => { r with x := 0x00FF }))) [0xE8] (fun t =>
      flagByte t == 0x12 && t.regs.e == false && t.regs.x == 0x0000) &&
    vec (((native 0x00).withRegs (fun r => { r with x := 0x00FF }))) [0xE8] (fun t =>
      flagByte t == 0x00 && t.regs.e == false && t.regs.x == 0x0100)) = true := by decide

/-- I3. -/
theorem test_dex :
    (vec (((native 0x00).withRegs (fun r => { r with x := 0x0000 }))) [0xCA] (fun t =>
      flagByte t == 0x80 && t.regs.e == false && t.regs.x == 0xFFFF)) = true := by decide

/-- I4. -/
theorem test_dey :
    (vec (((native 0x10).withRegs (fun r => { r with y := 0x0000 }))) [0x88] (fun t =>
      flagByte t == 0x90 && t.regs.e == false && t.regs.y == 0x00FF)) = true := by decide

/-- I5. -/
theorem test_iny :
    (vec (((native 0x00).withRegs (fun r => { r with y := 0x7FFF }))) [0xC8] (fun t =>
      flagByte t == 0x80 && t.regs.e == false && t.regs.y == 0x8000)) = true := by decide

/-- I6; I7. -/
theorem test_tax :
    (vec (((native 0x20).withRegs (fun r => { r with c := 0x1234 }))) [0xAA] (fun t =>
      flagByte t == 0x20 && t.regs.e == false && t.regs.x == 0x1234) &&
    vec (((native 0x10).withRegs (fun r => { r with c := 0x1280 }))) [0xAA] (fun t =>
      flagByte t == 0x90 && t.regs.e == false && t.regs.x == 0x0080)) = true := by decide

/-- R221 example. -/
theorem test_tay :
    (vec (((native 0x10).withRegs (fun r => { r with c := 0x1280 }))) [0xA8] (fun t =>
      flagByte t == 0x90 && t.regs.e == false && t.regs.y == 0x0080)) = true := by decide

/-- I8; I9. -/
theorem test_txa :
    (vec (((native 0x20).withRegs (fun r => { r with c := 0x5566, x := 0x1280 }))) [0x8A] (fun t =>
      flagByte t == 0xA0 && t.regs.e == false && t.regs.c == 0x5580) &&
    vec (((native 0x10).withRegs (fun r => { r with c := 0x5566, x := 0x0080 }))) [0x8A] (fun t =>
      flagByte t == 0x10 && t.regs.e == false && t.regs.c == 0x0080)) = true := by decide

/-- I10. -/
theorem test_tya :
    (vec (((native 0x00).withRegs (fun r => { r with c := 0x5566, y := 0x0000 }))) [0x98] (fun t =>
      flagByte t == 0x02 && t.regs.e == false && t.regs.c == 0x0000)) = true := by decide

/-- I11. -/
theorem test_txy :
    (vec (((native 0x00).withRegs (fun r => { r with x := 0x8001 }))) [0x9B] (fun t =>
      flagByte t == 0x80 && t.regs.e == false && t.regs.y == 0x8001)) = true := by decide

/-- I12. -/
theorem test_tyx :
    (vec (((native 0x10).withRegs (fun r => { r with y := 0x0000, x := 0x0005 }))) [0xBB] (fun t =>
      flagByte t == 0x12 && t.regs.e == false && t.regs.x == 0x0000)) = true := by decide

/-- I13; I14. -/
theorem test_tsx :
    (vec (((native 0x10).withRegs (fun r => { r with sp := 0x1FF0 }))) [0xBA] (fun t =>
      flagByte t == 0x90 && t.regs.e == false && t.regs.x == 0x00F0) &&
    vec (((native 0x00).withRegs (fun r => { r with sp := 0x1FF0 }))) [0xBA] (fun t =>
      flagByte t == 0x00 && t.regs.e == false && t.regs.x == 0x1FF0)) = true := by decide

/-- I16; I17. -/
theorem test_txs :
    (vec (((native 0x10).withRegs (fun r => { r with x := 0x0080, sp := 0x1FFF }))) [0x9A] (fun t =>
      flagByte t == 0x90 && t.regs.e == false && t.regs.sp == 0x0080) &&
    vec (((emulation 0x30).withRegs (fun r => { r with x := 0x0080 }))) [0x9A] (fun t =>
      flagByte t == 0xB0 && t.regs.e == true && t.regs.sp == 0x0180)) = true := by decide

/-- I15. -/
theorem test_txs_other :
    (vec ((((native 0x00).withRegs (fun r => { r with x := 0x8000 }))).withParams (fun q => { q with txsSetsNZ := false })) [0x9A] (fun t =>
      flagByte t == 0x00 && t.regs.e == false && t.regs.sp == 0x8000)) = true := by decide

/-- I18. -/
theorem test_tcd :
    (vec (((native 0x30).withRegs (fun r => { r with c := 0x8000 }))) [0x5B] (fun t =>
      flagByte t == 0xB0 && t.regs.e == false && t.regs.dr == 0x8000)) = true := by decide

/-- I19; I20. -/
theorem test_tcs :
    (vec (((native 0xB2).withRegs (fun r => { r with c := 0x0000 }))) [0x1B] (fun t =>
      flagByte t == 0xB2 && t.regs.e == false && t.regs.sp == 0x0000) &&
    vec (((emulation 0x30).withRegs (fun r => { r with c := 0x2280 }))) [0x1B] (fun t =>
      flagByte t == 0x30 && t.regs.e == true && t.regs.sp == 0x0180)) = true := by decide

/-- I21. -/
theorem test_tdc :
    (vec (((native 0x30).withRegs (fun r => { r with c := 0xFFFF }))) [0x7B] (fun t =>
      flagByte t == 0x32 && t.regs.e == false && t.regs.c == 0x0000)) = true := by decide

/-- I22. -/
theorem test_tsc :
    (vec (((native 0x30).withRegs (fun r => { r with sp := 0x81F0 }))) [0x3B] (fun t =>
      flagByte t == 0xB0 && t.regs.e == false && t.regs.c == 0x81F0)) = true := by decide

/-- I23. -/
theorem test_clc :
    (vec ((native 0x01)) [0x18] (fun t =>
      flagByte t == 0x00 && t.regs.e == false)) = true := by decide

/-- I23. -/
theorem test_sec :
    (vec ((native 0x00)) [0x38] (fun t =>
      flagByte t == 0x01 && t.regs.e == false)) = true := by decide

/-- I24. -/
theorem test_cld :
    (vec ((native 0x08)) [0xD8] (fun t =>
      flagByte t == 0x00 && t.regs.e == false)) = true := by decide

/-- I24. -/
theorem test_sed :
    (vec ((native 0x00)) [0xF8] (fun t =>
      flagByte t == 0x08 && t.regs.e == false)) = true := by decide

/-- I25. -/
theorem test_cli :
    (vec ((native 0x04)) [0x58] (fun t =>
      flagByte t == 0x00 && t.regs.e == false)) = true := by decide

/-- I25. -/
theorem test_sei :
    (vec ((native 0x00)) [0x78] (fun t =>
      flagByte t == 0x04 && t.regs.e == false)) = true := by decide

/-- I26. -/
theorem test_clv :
    (vec ((native 0x40)) [0xB8] (fun t =>
      flagByte t == 0x00 && t.regs.e == false)) = true := by decide

/-- I27; I28. -/
theorem test_xba :
    (vec (((native 0x30).withRegs (fun r => { r with c := 0x8001 }))) [0xEB] (fun t =>
      flagByte t == 0xB0 && t.regs.e == false && t.regs.c == 0x0180) &&
    vec (((native 0x00).withRegs (fun r => { r with c := 0x0012 }))) [0xEB] (fun t =>
      flagByte t == 0x02 && t.regs.e == false && t.regs.c == 0x1200)) = true := by decide

/-- I29; I30. -/
theorem test_xce :
    (vec ((emulation 0x30)) [0xFB] (fun t =>
      flagByte t == 0x31 && t.regs.e == false && t.regs.sp == 0x01FF) &&
    vec (((native 0x01).withRegs (fun r => { r with x := 0x1234, y := 0xABCD, sp := 0x1FF0, c := 0x5566 }))) [0xFB] (fun t =>
      flagByte t == 0x30 && t.regs.e == true && t.regs.x == 0x0034 && t.regs.y == 0x00CD && t.regs.sp == 0x01F0 && t.regs.c == 0x5566)) = true := by decide

/-- I33. -/
theorem test_wdm :
    (vec ((native 0x30)) [0x42, 0xDB] (fun t =>
      flagByte t == 0x30 && t.regs.e == false && t.regs.pc == 0x8002 && t.run == .running)) = true := by decide

/-- I34. -/
theorem test_nop :
    (vec ((native 0xFF)) [0xEA] (fun t =>
      flagByte t == 0xFF && t.regs.e == false && t.regs.pc == 0x8001)) = true := by decide

/-- I35. -/
theorem test_stp :
    (vec ((native 0x00)) [0xDB] (fun t =>
      flagByte t == 0x00 && t.regs.e == false && t.regs.pc == 0x8001 && t.run == .stopped)) = true := by decide

/-- I36. -/
theorem test_wai :
    (vec ((native 0x00)) [0xCB] (fun t =>
      flagByte t == 0x00 && t.regs.e == false && t.regs.pc == 0x8001 && t.run == .waiting)) = true := by decide

/-- K1; K22. -/
theorem test_pha :
    (vec (((native 0x00).withRegs (fun r => { r with c := 0x1234 }))) [0x48] (fun t =>
      flagByte t == 0x00 && t.regs.e == false && t.regs.sp == 0x01FD && t.byteAt 0x0001FF == 0x12 && t.byteAt 0x0001FE == 0x34) &&
    vec (((emulation 0x30).withRegs (fun r => { r with sp := 0x0100, c := 0x00AA }))) [0x48] (fun t =>
      flagByte t == 0x30 && t.regs.e == true && t.regs.sp == 0x01FF && t.byteAt 0x000100 == 0xAA)) = true := by decide

/-- K4; K24. -/
theorem test_pla :
    (vec (((native 0x20).withRegs (fun r => { r with c := 0x5500, sp := 0x01FD })).withCells [(0x0001FE, 0x00)]) [0x68] (fun t =>
      flagByte t == 0x22 && t.regs.e == false && t.regs.c == 0x5500 && t.regs.sp == 0x01FE) &&
    vec (((emulation 0x30).withRegs (fun r => { r with sp := 0x01FF })).withCells [(0x000100, 0x5A), (0x000200, 0xEE)]) [0x68] (fun t =>
      flagByte t == 0x30 && t.regs.e == true && t.regs.c == 0x005A && t.regs.sp == 0x0100)) = true := by decide

/-- K5; K6. -/
theorem test_php :
    (vec ((native 0xC3)) [0x08] (fun t =>
      flagByte t == 0xC3 && t.regs.e == false && t.regs.sp == 0x01FE && t.byteAt 0x0001FF == 0xC3) &&
    vec ((emulation 0xF3)) [0x08] (fun t =>
      flagByte t == 0xF3 && t.regs.e == true && t.regs.sp == 0x01FE && t.byteAt 0x0001FF == 0xF3)) = true := by decide

/-- K7; K8. -/
theorem test_plp :
    (vec (((native 0x00).withRegs (fun r => { r with x := 0x1234, sp := 0x01FE })).withCells [(0x0001FF, 0x31)]) [0x28] (fun t =>
      flagByte t == 0x31 && t.regs.e == false && t.regs.x == 0x0034) &&
    vec (((emulation 0x30).withRegs (fun r => { r with sp := 0x01FE })).withCells [(0x0001FF, 0xC1)]) [0x28] (fun t =>
      flagByte t == 0xF1 && t.regs.e == true)) = true := by decide

/-- K9. -/
theorem test_phb :
    (vec (((native 0x00).withRegs (fun r => { r with dbr := 0x7E }))) [0x8B] (fun t =>
      flagByte t == 0x00 && t.regs.e == false && t.regs.sp == 0x01FE && t.byteAt 0x0001FF == 0x7E)) = true := by decide

/-- K10. -/
theorem test_plb :
    (vec (((native 0x00).withRegs (fun r => { r with sp := 0x01FE })).withCells [(0x0001FF, 0x80)]) [0xAB] (fun t =>
      flagByte t == 0x80 && t.regs.e == false && t.regs.dbr == 0x80)) = true := by decide

/-- K11; K23. -/
theorem test_phd :
    (vec (((native 0x00).withRegs (fun r => { r with dr := 0x1234 }))) [0x0B] (fun t =>
      flagByte t == 0x00 && t.regs.e == false && t.regs.sp == 0x01FD && t.byteAt 0x0001FF == 0x12 && t.byteAt 0x0001FE == 0x34) &&
    vec (((emulation 0x30).withRegs (fun r => { r with sp := 0x0100, dr := 0x1234 }))) [0x0B] (fun t =>
      flagByte t == 0x30 && t.regs.e == true && t.regs.sp == 0x01FE && t.byteAt 0x000100 == 0x12 && t.byteAt 0x0001FF == 0x34)) = true := by decide

/-- R270 example. -/
theorem test_pld :
    (vec (((native 0x00).withRegs (fun r => { r with sp := 0x01FD })).withCells [(0x0001FE, 0x00), (0x0001FF, 0x21)]) [0x2B] (fun t =>
      flagByte t == 0x00 && t.regs.e == false && t.regs.dr == 0x2100 && t.regs.sp == 0x01FF)) = true := by decide

/-- K13. -/
theorem test_phk :
    (vec (((native 0x00).withRegs (fun r => { r with pbr := 0x12, pc := 0x8000 }))) [0x4B] (fun t =>
      flagByte t == 0x00 && t.regs.e == false && t.byteAt 0x0001FF == 0x12)) = true := by decide

/-- K14. -/
theorem test_phx :
    (vec (((native 0x00).withRegs (fun r => { r with x := 0xABCD }))) [0xDA] (fun t =>
      flagByte t == 0x00 && t.regs.e == false && t.regs.sp == 0x01FD && t.byteAt 0x0001FF == 0xAB && t.byteAt 0x0001FE == 0xCD)) = true := by decide

/-- K15. -/
theorem test_phy :
    (vec (((native 0x10).withRegs (fun r => { r with y := 0x00CD }))) [0x5A] (fun t =>
      flagByte t == 0x10 && t.regs.e == false && t.regs.sp == 0x01FE && t.byteAt 0x0001FF == 0xCD)) = true := by decide

/-- R272 example. -/
theorem test_plx :
    (vec (((native 0x20).withRegs (fun r => { r with sp := 0x01FD })).withCells [(0x0001FE, 0xCD), (0x0001FF, 0xAB)]) [0xFA] (fun t =>
      flagByte t == 0xA0 && t.regs.e == false && t.regs.x == 0xABCD && t.regs.sp == 0x01FF)) = true := by decide

/-- K17. -/
theorem test_ply :
    (vec (((native 0x00).withRegs (fun r => { r with sp := 0x01FD })).withCells [(0x0001FE, 0xCD), (0x0001FF, 0xAB)]) [0x7A] (fun t =>
      flagByte t == 0x80 && t.regs.e == false && t.regs.y == 0xABCD)) = true := by decide

/-- K18. -/
theorem test_pea :
    (vec ((native 0x30)) [0xF4, 0x34, 0x12] (fun t =>
      flagByte t == 0x30 && t.regs.e == false && t.regs.sp == 0x01FD && t.byteAt 0x0001FF == 0x12 && t.byteAt 0x0001FE == 0x34)) = true := by decide

/-- K19. -/
theorem test_pei :
    (vec (((native 0x30).withRegs (fun r => { r with dr := 0x0100 })).withCells [(0x000110, 0x78), (0x000111, 0x56)]) [0xD4, 0x10] (fun t =>
      flagByte t == 0x30 && t.regs.e == false && t.byteAt 0x0001FF == 0x56 && t.byteAt 0x0001FE == 0x78)) = true := by decide

/-- K20; K21. -/
theorem test_per :
    (vec ((native 0x00)) [0x62, 0x10, 0x00] (fun t =>
      flagByte t == 0x00 && t.regs.e == false && t.byteAt 0x0001FF == 0x80 && t.byteAt 0x0001FE == 0x13) &&
    vec ((native 0x00)) [0x62, 0xFD, 0xFF] (fun t =>
      flagByte t == 0x00 && t.regs.e == false && t.byteAt 0x0001FF == 0x80 && t.byteAt 0x0001FE == 0x00)) = true := by decide

/-- K26; K27. -/
theorem test_brk :
    (vec ((emulation 0xF9).withCells [(0x00FFFE, 0x00), (0x00FFFF, 0x90)]) [0x00, 0xFF] (fun t =>
      flagByte t == 0xF5 && t.regs.e == true && t.regs.sp == 0x01FC && t.regs.pc == 0x9000 && t.byteAt 0x0001FF == 0x80 && t.byteAt 0x0001FE == 0x02 && t.byteAt 0x0001FD == 0xF9) &&
    vec (((native 0xC9).withRegs (fun r => { r with pbr := 0x12, pc := 0x8000 })).withCells [(0x00FFE6, 0x00), (0x00FFE7, 0x90)]) [0x00, 0xFF] (fun t =>
      flagByte t == 0xC5 && t.regs.e == false && t.regs.sp == 0x01FB && t.regs.pc == 0x9000 && t.regs.pbr == 0x00 && t.byteAt 0x0001FF == 0x12 && t.byteAt 0x0001FE == 0x80 && t.byteAt 0x0001FD == 0x02 && t.byteAt 0x0001FC == 0xC9)) = true := by decide

/-- K28. -/
theorem test_cop :
    (vec (((native 0x00).withRegs (fun r => { r with pbr := 0x12, pc := 0xFFFF })).withCells [(0x00FFE4, 0x34), (0x00FFE5, 0x12)]) [0x02, 0x00] (fun t =>
      flagByte t == 0x04 && t.regs.e == false && t.regs.pc == 0x1234 && t.regs.pbr == 0x00 && t.byteAt 0x0001FF == 0x12 && t.byteAt 0x0001FE == 0x00 && t.byteAt 0x0001FD == 0x01 && t.byteAt 0x0001FC == 0x00)) = true := by decide

/-- K29; K30. -/
theorem test_rti :
    (vec (((native 0x00).withRegs (fun r => { r with sp := 0x01FB })).withCells [(0x0001FC, 0x31), (0x0001FD, 0x02), (0x0001FE, 0x80), (0x0001FF, 0x12)]) [0x40] (fun t =>
      flagByte t == 0x31 && t.regs.e == false && t.regs.pc == 0x8002 && t.regs.pbr == 0x12 && t.regs.sp == 0x01FF) &&
    vec (((emulation 0x30).withRegs (fun r => { r with sp := 0x01FC })).withCells [(0x0001FD, 0xC1), (0x0001FE, 0x02), (0x0001FF, 0x80)]) [0x40] (fun t =>
      flagByte t == 0xF1 && t.regs.e == true && t.regs.pc == 0x8002 && t.regs.pbr == 0x00 && t.regs.sp == 0x01FF)) = true := by decide

/-- K31. -/
theorem test_rtl :
    (vec (((native 0x00).withRegs (fun r => { r with sp := 0x01FC })).withCells [(0x0001FD, 0xFF), (0x0001FE, 0xFF), (0x0001FF, 0x7E)]) [0x6B] (fun t =>
      flagByte t == 0x00 && t.regs.e == false && t.regs.pc == 0x0000 && t.regs.pbr == 0x7E && t.regs.sp == 0x01FF)) = true := by decide

/-- K32. -/
theorem test_rts :
    (vec (((native 0x00).withRegs (fun r => { r with sp := 0x01FD, pbr := 0x05, pc := 0x8000 })).withCells [(0x0001FE, 0x04), (0x0001FF, 0x80)]) [0x60] (fun t =>
      flagByte t == 0x00 && t.regs.e == false && t.regs.pc == 0x8005 && t.regs.pbr == 0x05 && t.regs.sp == 0x01FF)) = true := by decide

/-- G1; G2. -/
theorem test_bne :
    (vec (((native 0x00).withRegs (fun r => { r with pbr := 0x00, pc := 0x8009 }))) [0xD0, 0xF9] (fun t =>
      flagByte t == 0x00 && t.regs.e == false && t.regs.pc == 0x8004) &&
    vec (((native 0x02).withRegs (fun r => { r with pbr := 0x00, pc := 0x8009 }))) [0xD0, 0xF9] (fun t =>
      flagByte t == 0x02 && t.regs.e == false && t.regs.pc == 0x800B)) = true := by decide

/-- G3. -/
theorem test_beq :
    (vec ((native 0x02)) [0xF0, 0x7F] (fun t =>
      flagByte t == 0x02 && t.regs.e == false && t.regs.pc == 0x8081)) = true := by decide

/-- G4. -/
theorem test_bcc :
    (vec ((native 0x00)) [0x90, 0x02] (fun t =>
      flagByte t == 0x00 && t.regs.e == false && t.regs.pc == 0x8004)) = true := by decide

/-- G5. -/
theorem test_bcs :
    (vec ((native 0x00)) [0xB0, 0x02] (fun t =>
      flagByte t == 0x00 && t.regs.e == false && t.regs.pc == 0x8002)) = true := by decide

/-- G6. -/
theorem test_bmi :
    (vec ((native 0x80)) [0x30, 0x80] (fun t =>
      flagByte t == 0x80 && t.regs.e == false && t.regs.pc == 0x7F82)) = true := by decide

/-- G7. -/
theorem test_bpl :
    (vec ((native 0x80)) [0x10, 0x80] (fun t =>
      flagByte t == 0x80 && t.regs.e == false && t.regs.pc == 0x8002)) = true := by decide

/-- G8. -/
theorem test_bvc :
    (vec ((native 0x00)) [0x50, 0x10] (fun t =>
      flagByte t == 0x00 && t.regs.e == false && t.regs.pc == 0x8012)) = true := by decide

/-- G9. -/
theorem test_bvs :
    (vec ((native 0x40)) [0x70, 0x10] (fun t =>
      flagByte t == 0x40 && t.regs.e == false && t.regs.pc == 0x8012)) = true := by decide

/-- G10. -/
theorem test_bra :
    (vec (((native 0x00).withRegs (fun r => { r with pbr := 0x01, pc := 0xFFF0 }))) [0x80, 0x20] (fun t =>
      flagByte t == 0x00 && t.regs.e == false && t.regs.pc == 0x0012 && t.regs.pbr == 0x01)) = true := by decide

/-- G12; G13. -/
theorem test_brl :
    (vec ((native 0x00)) [0x82, 0xFD, 0xFF] (fun t =>
      flagByte t == 0x00 && t.regs.e == false && t.regs.pc == 0x8000) &&
    vec (((native 0x00).withRegs (fun r => { r with pbr := 0x02, pc := 0x8000 }))) [0x82, 0x00, 0x80] (fun t =>
      flagByte t == 0x00 && t.regs.e == false && t.regs.pc == 0x0003 && t.regs.pbr == 0x02)) = true := by decide

/-- J1; J2. -/
theorem test_jmp :
    (vec (((native 0x00).withRegs (fun r => { r with dbr := 0x07, pbr := 0x05, pc := 0x8000 }))) [0x4C, 0x34, 0x12] (fun t =>
      flagByte t == 0x00 && t.regs.e == false && t.regs.pc == 0x1234 && t.regs.pbr == 0x05) &&
    vec (((native 0x00).withRegs (fun r => { r with pbr := 0x05, pc := 0x8000 }))) [0x5C, 0x56, 0x34, 0x12] (fun t =>
      flagByte t == 0x00 && t.regs.e == false && t.regs.pc == 0x3456 && t.regs.pbr == 0x12)) = true := by decide

/-- J4; J6. -/
theorem test_jmp_indirect :
    (vec (((native 0x00).withRegs (fun r => { r with pbr := 0x05, pc := 0x8000 })).withCells [(0x00FFFF, 0xCD), (0x000000, 0xAB), (0x010000, 0x99)]) [0x6C, 0xFF, 0xFF] (fun t =>
      flagByte t == 0x00 && t.regs.e == false && t.regs.pc == 0xABCD && t.regs.pbr == 0x05) &&
    vec (((native 0x00).withRegs (fun r => { r with x := 0x0004, pbr := 0x05, pc := 0x8000 })).withCells [(0x002004, 0xCD), (0x002005, 0xAB), (0x052004, 0x11), (0x052005, 0x11)]) [0x7C, 0x00, 0x20] (fun t =>
      flagByte t == 0x00 && t.regs.e == false && t.regs.pc == 0xABCD && t.regs.pbr == 0x05)) = true := by decide

/-- J6, other setting. -/
theorem test_jmp_indexed_other :
    (vec ((((native 0x00).withRegs (fun r => { r with x := 0x0004, pbr := 0x05, pc := 0x8000 })).withCells [(0x002004, 0xCD), (0x002005, 0xAB), (0x052004, 0x11), (0x052005, 0x11)]).withParams (fun q => { q with jmpPointerBank := .programBank })) [0x7C, 0x00, 0x20] (fun t =>
      flagByte t == 0x00 && t.regs.e == false && t.regs.pc == 0x1111 && t.regs.pbr == 0x05)) = true := by decide

/-- J5. -/
theorem test_jml :
    (vec (((native 0x00).withRegs (fun r => { r with pbr := 0x05, pc := 0x8000 })).withCells [(0x002000, 0x56), (0x002001, 0x34), (0x002002, 0x12)]) [0xDC, 0x00, 0x20] (fun t =>
      flagByte t == 0x00 && t.regs.e == false && t.regs.pc == 0x3456 && t.regs.pbr == 0x12)) = true := by decide

/-- J7. -/
theorem test_jsl :
    (vec (((native 0x00).withRegs (fun r => { r with pbr := 0x05, pc := 0x8000 }))) [0x22, 0x56, 0x34, 0x12] (fun t =>
      flagByte t == 0x00 && t.regs.e == false && t.regs.sp == 0x01FC && t.regs.pc == 0x3456 && t.regs.pbr == 0x12 && t.byteAt 0x0001FF == 0x05 && t.byteAt 0x0001FE == 0x80 && t.byteAt 0x0001FD == 0x03)) = true := by decide

/-- J8; J9. -/
theorem test_jsr :
    (vec (((native 0x00).withRegs (fun r => { r with pbr := 0x05, pc := 0x8000 }))) [0x20, 0x34, 0x12] (fun t =>
      flagByte t == 0x00 && t.regs.e == false && t.regs.sp == 0x01FD && t.regs.pc == 0x1234 && t.regs.pbr == 0x05 && t.byteAt 0x0001FF == 0x80 && t.byteAt 0x0001FE == 0x02) &&
    vec (((native 0x10).withRegs (fun r => { r with x := 0x0002, pbr := 0x05, pc := 0xFFFD })).withCells [(0x002002, 0x00), (0x002003, 0x90)]) [0xFC, 0x00, 0x20] (fun t =>
      flagByte t == 0x10 && t.regs.e == false && t.regs.pc == 0x9000 && t.byteAt 0x0001FF == 0xFF && t.byteAt 0x0001FE == 0xFF)) = true := by decide

/-- M1. -/
theorem test_mvn :
    (vec ((((native 0x00).withRegs (fun r => { r with x := 0x2002, y := 0x3002, c := 0x0002 })).withCells [(0x7E2000, 0x11), (0x7E2001, 0x22), (0x7E2002, 0x33)]).withParams (fun q => { q with blockMoveInterruptible := .atomic })) [0x54, 0x7F, 0x7E] (fun t =>
      flagByte t == 0x00 && t.regs.e == false && t.regs.x == 0x1FFF && t.regs.y == 0x2FFF && t.regs.c == 0x0000 && t.regs.dbr == 0x7F && t.regs.pc == 0x8003 && t.byteAt 0x7F3002 == 0x33 && t.byteAt 0x7F3001 == 0x22 && t.byteAt 0x7F3000 == 0x11)) = true := by decide

/-- M5. -/
theorem test_mvn_other :
    (vec ((((native 0x00).withRegs (fun r => { r with x := 0x2000, y := 0x3000, c := 0x0002 })).withCells [(0x7E2000, 0x11), (0x7E2001, 0x22), (0x7E2002, 0x33)]).withParams (fun q => { q with blockMoveInterruptible := .atomic, blockMoveDirection := .other, blockMoveFinalC := .ffff })) [0x54, 0x7F, 0x7E] (fun t =>
      flagByte t == 0x00 && t.regs.e == false && t.regs.x == 0x2003 && t.regs.y == 0x3003 && t.regs.c == 0xFFFF && t.regs.dbr == 0x7F && t.byteAt 0x7F3002 == 0x33 && t.byteAt 0x7F3001 == 0x22 && t.byteAt 0x7F3000 == 0x11)) = true := by decide

/-- M2; M3. -/
theorem test_mvp :
    (vec (((native 0x00).withRegs (fun r => { r with x := 0xFFFF, y := 0x0000, c := 0x0000, dbr := 0x55 })).withCells [(0x01FFFF, 0xAA)]) [0x44, 0x02, 0x01] (fun t =>
      flagByte t == 0x00 && t.regs.e == false && t.regs.x == 0x0000 && t.regs.y == 0x0001 && t.regs.c == 0x0000 && t.regs.dbr == 0x02 && t.regs.pc == 0x8003 && t.byteAt 0x020000 == 0xAA) &&
    vec ((((native 0x10).withRegs (fun r => { r with x := 0x00FF, y := 0x0010, c := 0x0001 })).withCells [(0x0100FF, 0xAA), (0x010000, 0xBB), (0x010100, 0xCC)]).withParams (fun q => { q with blockMoveInterruptible := .atomic })) [0x44, 0x02, 0x01] (fun t =>
      flagByte t == 0x10 && t.regs.e == false && t.regs.x == 0x0001 && t.regs.y == 0x0012 && t.byteAt 0x020010 == 0xAA && t.byteAt 0x020011 == 0xBB)) = true := by decide

/-- M4. -/
theorem test_mvp_overlap :
    (vec ((((native 0x00).withRegs (fun r => { r with x := 0x2000, y := 0x2001, c := 0x0002 })).withCells [(0x002000, 0x01), (0x002001, 0x02), (0x002002, 0x03), (0x002003, 0x04)]).withParams (fun q => { q with blockMoveInterruptible := .atomic })) [0x44, 0x00, 0x00] (fun t =>
      flagByte t == 0x00 && t.regs.e == false && t.byteAt 0x002001 == 0x01 && t.byteAt 0x002002 == 0x01 && t.byteAt 0x002003 == 0x01)) = true := by decide

/-- E1. -/
theorem test_irq_native :
    (vec ({ ((native 0x00).withRegs (fun r => { r with pbr := 0x01, pc := 0x8000 })).withCells [(0x00FFEE, 0x00), (0x00FFEF, 0xA0)] with irqLine := true }) [0xEA] (fun t =>
      flagByte t == 0x04 && t.regs.e == false && t.regs.sp == 0x01FB && t.regs.pbr == 0x00 && t.regs.pc == 0xA000 && t.byteAt 0x0001FF == 0x01 && t.byteAt 0x0001FE == 0x80 && t.byteAt 0x0001FD == 0x00 && t.byteAt 0x0001FC == 0x00)) = true := by decide

/-- E2. -/
theorem test_irq_emulation :
    (vec ({ (emulation 0x30).withCells [(0x00FFFE, 0x00), (0x00FFFF, 0xA0)] with irqLine := true }) [0xEA] (fun t =>
      flagByte t == 0x34 && t.regs.e == true && t.regs.sp == 0x01FC && t.regs.pc == 0xA000 && t.byteAt 0x0001FF == 0x80 && t.byteAt 0x0001FE == 0x00 && t.byteAt 0x0001FD == 0x20)) = true := by decide

/-- E3. -/
theorem test_irq_masked :
    (vec ({ (native 0x04) with irqLine := true }) [0xEA] (fun t =>
      flagByte t == 0x04 && t.regs.e == false && t.regs.pc == 0x8001)) = true := by decide

/-- E4. -/
theorem test_nmi :
    (vec ({ (native 0x04).withCells [(0x00FFEA, 0x00), (0x00FFEB, 0xB0)] with nmiPending := true }) [0xEA] (fun t =>
      flagByte t == 0x04 && t.regs.e == false && t.regs.pc == 0xB000 && t.byteAt 0x0001FF == 0x00 && t.byteAt 0x0001FE == 0x80 && t.byteAt 0x0001FD == 0x00 && t.byteAt 0x0001FC == 0x04 && !t.nmiPending)) = true := by decide

/-- E5. -/
theorem test_wai_wakes :
    (vec ({ ((native 0x34).withRegs (fun r => { r with pbr := 0x00, pc := 0x8001 })) with run := .waiting, irqLine := true }) [0xEA] (fun t =>
      flagByte t == 0x34 && t.regs.e == false && t.regs.pc == 0x8002 && t.regs.sp == 0x01FF && t.run == .running)) = true := by decide

/-- E6. -/
theorem test_wai_handler :
    (vec ({ ((native 0x30).withRegs (fun r => { r with pbr := 0x00, pc := 0x8001 })).withCells [(0x00FFEE, 0x00), (0x00FFEF, 0xA0)] with run := .waiting, irqLine := true }) [0xEA] (fun t =>
      flagByte t == 0x34 && t.regs.e == false && t.regs.pc == 0xA000 && t.byteAt 0x0001FE == 0x80 && t.byteAt 0x0001FD == 0x01)) = true := by decide

/-- E7. -/
theorem test_stopped :
    (vec ({ (native 0x00) with run := .stopped, irqLine := true, nmiPending := true }) [0xEA] (fun t =>
      flagByte t == 0x00 && t.regs.e == false && t.regs.pc == 0x8000 && t.run == .stopped)) = true := by decide

/-- E8, E9. -/
theorem test_reset_line :
    (vec ({ ((native 0xCB).withRegs (fun r => { r with dr := 0x0005, dbr := 0x06, pbr := 0x07, pc := 0x0000 })).withCells [(0x00FFFC, 0x00), (0x00FFFD, 0x80)] with resetLine := true, irqLine := true, nmiPending := true, run := .stopped }) [0xEA] (fun t =>
      t.regs.p.m == true && t.regs.p.x == true && t.regs.p.d == false && t.regs.p.i == true && t.regs.e == true && t.regs.dr == 0x0000 && t.regs.dbr == 0x00 && t.regs.pbr == 0x00 && t.regs.pc == 0x8000 && !t.nmiPending && t.run == .running)) = true := by decide

/-! ### Witnesses: for every obligation with hypotheses, states and operands that meet all of them together -/

open Sys2Proof.Spec

/-- The outcome is a next state. -/
def goesOn (r : Result) : Bool :=
  match r with
  | .next _ => true
  | .fault _ => false
  | .refused _ => false

/-- Native mode, 16-bit widths, code `EA` (NOP) at 00:8000. -/
def plain : State := (native 0x00).withCells [(0x8000, 0xEA)]

/-- Emulation mode at the boundary of the stack page, S = 0100H. -/
def plainE : State := ((emulation 0x30).withRegs fun r => { r with sp := 0x0100 }).withCells [(0x8000, 0xEA)]

/-- Decimal mode, A = 99H and 8 bits. -/
def decimalNines : State := (native 0x28).withRegs fun r => { r with c := 0x0099 }

/-- Every address of bank 01 a device, bank 02 ROM, bank 03 unpopulated. -/
def mixedMap : State := plain.withParams fun q =>
  { q with memMap := [⟨0x010000, 0x01FFFF, .device⟩, ⟨0x020000, 0x02FFFF, .rom⟩, ⟨0x030000, 0x03FFFF, .unpopulated⟩] }

/-- The page wrap in force: E = 1, DL = 00H, EMU_PAGE_WRAP = page. -/
def wrapping : State := plainE.withParams fun q => { q with emuPageWrap := .page }

/-- The whole block move as one step. -/
def atomicMove : State := plain.withParams fun q => { q with blockMoveInterruptible := .atomic }

/-- Both ends of the immediate's range at both widths. -/
theorem witness_EncodingsRoundTrip :
    (Instr.adcImm 0x00FF).wellFormed true true = true ∧ (Instr.adcImm 0xFFFF).wellFormed false true = true ∧
      (Instr.ldxImm 0x00FF).wellFormed false true = true ∧ (Instr.ldxImm 0xFFFF).wellFormed true false = true := by decide

theorem witness_DecodedBytesReencode :
    decode true false [0xA9, 0xFF, 0x00] = .ok (.ldaImm 0x00FF, [0x00]) ∧
      decode false true [0xA9, 0xFF, 0x00] = .ok (.ldaImm 0x00FF, []) := by decide

/-- A one-byte instruction, and a three-byte one whose bytes wrap inside the bank (R92). -/
theorem witness_StepRunsDecodedInstruction :
    (plain.undisturbed = true ∧ plain.codeInMemory 1 = true ∧
      decode plain.regs.p.m plain.regs.p.x (plain.codeBytes 1) = .ok (.nop, [])) ∧
    (let s := (plain.withRegs fun r => { r with pc := 0xFFFF }).withCells [(0xFFFF, 0xA9), (0x0000, 0x34), (0x0001, 0x12)]
     s.undisturbed = true ∧ s.codeInMemory 3 = true ∧
      decode s.regs.p.m s.regs.p.x (s.codeBytes 3) = .ok (.ldaImm 0x1234, [])) := by decide

/-- Every branch of the boundary is met: RESET, stopped, NMI, IRQ, waiting, woken with I = 1, running. -/
theorem witness_BoundaryOrder :
    (plain.inv = true ∧ (takeInput { plain with inputs := [⟨false, false, true⟩] }).resetLine = true) ∧
    (plain.resetLine = false ∧ ({ plain with run := .stopped } : State).run = .stopped) ∧
    ((takeInput { plain with inputs := [⟨true, true, false⟩] }).nmiPending = true) ∧
    ((takeInput { plain with inputs := [⟨true, false, false⟩] }).irqLine = true ∧ plain.regs.p.i = false ∧
      plain.nmiPending = false) ∧
    (plain.irqLine = false ∧ ({ plain with run := .waiting } : State).run ≠ .stopped) ∧
    (let s : State := { (native 0x04).withCells [(0x8000, 0xEA)] with run := .waiting, irqLine := true }
     s.inv = true ∧ s.regs.p.i = true ∧ s.codeInMemory 1 = true ∧
      decode s.regs.p.m s.regs.p.x (s.codeBytes 1) = .ok (.nop, [])) ∧
    (plain.run = .running ∧ plain.codeInMemory 1 = true ∧
      decode plain.regs.p.m plain.regs.p.x (plain.codeBytes 1) = .ok (.nop, [])) := by decide

/-- A step of a native and of an emulation mode state that hold the invariant. -/
theorem witness_StepKeepsInvariant :
    plain.inv = true ∧ goesOn (step plain) = true ∧ plainE.inv = true ∧ goesOn (step plainE) = true := by decide

theorem witness_ResetLineResets :
    (takeInput { plain with inputs := [⟨false, false, true⟩] }).resetLine = true ∧
      isMemory plain 0x00FFFC = true ∧ isMemory plain 0x00FFFD = true := by decide

theorem witness_LoadAndLogicalOperations :
    (Instr.ldaImm 0xFFFF).mnemonic ∈ [.lda, .and, .eor, .ora] ∧ (Instr.andAbs 0x1234).mnemonic ∈ [.lda, .and, .eor, .ora] ∧
      (Instr.eorDpIndY 0xFF).mnemonic ∈ [.lda, .and, .eor, .ora] ∧
      (Instr.oraLongX 0x123456).mnemonic ∈ [.lda, .and, .eor, .ora] := by decide

theorem witness_BinaryAddition : (Instr.adcSr 0xFF).mnemonic = .adc ∧ plain.regs.p.d = false := by decide

theorem witness_BinarySubtraction : (Instr.sbcImm 0x0001).mnemonic = .sbc ∧ plainE.regs.p.d = false := by decide

/-- The largest BCD value of the width, added to itself and subtracted. -/
theorem witness_DecimalOnBcd :
    (Instr.adcImm 0x0099).mnemonic ∈ [.adc, .sbc] ∧ (Instr.sbcImm 0x0099).mnemonic ∈ [.adc, .sbc] ∧
      decimalNines.regs.p.d = true ∧ isBcd true (acc decimalNines.regs) = true ∧
      isBcd true (loadOperand (.imm 0x0099) decimalNines.regs.wA decimalNines).1 = true := by decide

/-- The smallest digit that is not decimal. -/
theorem witness_DecimalOnOtherOperands :
    (Instr.adcImm 0x000A).mnemonic ∈ [.adc, .sbc] ∧ decimalNines.regs.p.d = true ∧
      ¬ (isBcd true (acc decimalNines.regs) = true ∧
        isBcd true (loadOperand (.imm 0x000A) decimalNines.regs.wA decimalNines).1 = true) := by decide

theorem witness_Comparisons :
    ((Instr.cmpDp 0x10).mnemonic = .cmp ∧ false = plain.regs.p.m ∧ (0x0000 : Word) = acc plain.regs) ∧
    ((Instr.cpxImm 0x0000).mnemonic = .cpx ∧ false = plain.regs.p.x ∧ (0x0000 : Word) = low false plain.regs.x) ∧
    ((Instr.cpyAbs 0xFFFF).mnemonic = .cpy ∧ true = plainE.regs.p.x ∧ (0x0000 : Word) = low true plainE.regs.y) := by
  decide

theorem witness_StoresWriteTheirOperand :
    plain.mem.wf = true ∧
    ((Instr.staAbs 0xFFFF).mnemonic = .sta ∧ false = plain.regs.p.m ∧ (0x0000 : Word) = acc plain.regs) ∧
    ((Instr.stxDp 0xFF).mnemonic = .stx ∧ false = plain.regs.p.x ∧ (0x0000 : Word) = low false plain.regs.x) ∧
    ((Instr.styAbs 0x0000).mnemonic = .sty ∧ false = plain.regs.p.x ∧ (0x0000 : Word) = low false plain.regs.y) ∧
    ((Instr.stzAbsX 0x1234).mnemonic = .stz ∧ false = plain.regs.p.m) := by decide

theorem witness_BitTests :
    (Instr.bitImm 0x00FF).mnemonic = .bit ∧ (Instr.bitImm 0x00FF).mode = .immediate ∧
      (Instr.bitAbsX 0x1234).mnemonic = .bit ∧ (Instr.bitAbsX 0x1234).mode ≠ .immediate := by decide

theorem witness_TestAndModify :
    plain.mem.wf = true ∧ (Instr.trbDp 0xFF).mnemonic ∈ [.trb, .tsb] ∧ (Instr.tsbAbs 0x0000).mnemonic ∈ [.trb, .tsb] := by
  decide

theorem witness_AccumulatorShiftsAndCounts : Instr.rorAcc ∈ accumulatorForms ∧ Instr.decAcc ∈ accumulatorForms := by
  decide

theorem witness_MemoryShiftsAndCounts :
    plain.mem.wf = true ∧ (Instr.rorAbs 0x1234).mnemonic ∈ modifiers ∧ Instr.rorAbs 0x1234 ∉ accumulatorForms ∧
      (Instr.aslAcc).mnemonic ∈ modifiers ∧ Instr.aslAcc ∈ accumulatorForms := by decide

theorem witness_StatusBitInstructions : plain.regs.inv = true ∧ plainE.regs.inv = true := by decide

theorem witness_LoadIndexRegister :
    (Instr.ldxDpY 0xFF).mnemonic ∈ [.ldx, .ldy] ∧ (Instr.ldyImm 0xFFFF).mnemonic ∈ [.ldx, .ldy] := by decide

theorem witness_TransfersToStackPointer :
    plain.regs.inv = true ∧ plainE.regs.inv = true ∧ plain.params.txsSetsNZ = true := by decide

theorem witness_ExchangeCE :
    plain.regs.p.c = false ∧ ((native 0x01).regs.p.c = true ∧ (native 0x01).regs.e = false) := by decide

theorem witness_StopUntilReset :
    (let s : State := { plain with run := .stopped, inputs := [⟨true, true, false⟩] }
     s.run = .stopped ∧ (takeInput s).resetLine = false) ∧
    (let s : State := { plain with run := .stopped, inputs := [⟨true, true, true⟩] }
     s.run = .stopped ∧ (takeInput s).resetLine = true) := by decide

theorem witness_WaitForInterrupt :
    (let s : State := { plain with run := .waiting }
     s.inputs = [] ∧ s.resetLine = false ∧ s.nmiPending = false ∧ s.irqLine = false) ∧
    (let s : State := { (native 0x04).withCells [(0x8000, 0xEA)] with run := .waiting, irqLine := true }
     s.inputs = [] ∧ s.resetLine = false ∧ s.nmiPending = false ∧ s.regs.p.i = true ∧ s.codeInMemory 1 = true ∧
      decode s.regs.p.m s.regs.p.x (s.codeBytes 1) = .ok (.nop, [])) := by decide

/-- A two-byte push in native mode, and one that wraps in the stack page of emulation mode. -/
theorem witness_Pushes :
    plain.inv = true ∧ (Instr.pha, pushWord 0x0000) ∈ [(Instr.pha, pushBytes plain.regs.p.m plain.regs.c)] ∧
      plainE.inv = true ∧ plainE.regs.sp = 0x0100 ∧ moveS plainE.regs (-2) = 0x01FE ∧
      (Instr.phk, [0x00#8]) ∈ [(Instr.phk, [plainE.regs.pbr])] := by decide

theorem witness_Pulls :
    plain.inv = true ∧ (Instr.pla, false) ∈ [(Instr.pla, plain.regs.p.m), (.plb, true), (.pld, false)] ∧
      plainE.inv = true ∧ (Instr.plx, true) ∈ [(Instr.plx, plainE.regs.p.x), (.ply, plainE.regs.p.x)] := by decide

/-- With every address RAM the stack is in memory, wherever S is. -/
theorem stack_of_ram {s : State} (h : s.params.memMap = []) (n : Nat) : stackInMemory n s ∧ stackInRam n s := by
  constructor
  · intro k _ _; simp [isMemory, State.kindAt, h, Machine.kindAt]
  · intro k _; simp [State.kindAt, h, Machine.kindAt]

theorem witness_stack_premises :
    plain.inv = true ∧ plainE.inv = true ∧ stackInMemory 4 plain ∧ stackInRam 4 plain ∧ stackInMemory 4 plainE ∧
      stackInRam 4 plainE :=
  ⟨by decide, by decide, (stack_of_ram rfl 4).1, (stack_of_ram rfl 4).2, (stack_of_ram rfl 4).1, (stack_of_ram rfl 4).2⟩

theorem witness_PullStatus : plainE.inv = true ∧ stackInMemory 1 plainE := ⟨by decide, (stack_of_ram rfl 1).1⟩

theorem witness_PullUndoesPush :
    plainE.inv = true ∧ stackInRam 2 plainE ∧
      (Instr.pha, Instr.pla, nz true 0x0000 plainE.regs.p) ∈
        [(Instr.pha, Instr.pla, nz plainE.regs.p.m (acc plainE.regs) plainE.regs.p)] ∧
      (Instr.php, Instr.plp, plainE.regs.p) ∈ [(Instr.php, Instr.plp, plainE.regs.p)] :=
  ⟨by decide, (stack_of_ram rfl 2).2, by decide, by decide⟩

theorem witness_SoftwareInterrupts :
    plain.inv = true ∧ plainE.inv = true ∧ isMemory plain (bankAddr 0x00 0xFFE6) = true ∧
      isMemory plain (bankAddr 0x00 0xFFE7) = true := by decide

theorem witness_ReturnFromInterrupt :
    plain.inv = true ∧ stackInMemory 4 plain ∧ plainE.inv = true ∧ stackInMemory 3 plainE :=
  ⟨by decide, (stack_of_ram rfl 4).1, by decide, (stack_of_ram rfl 3).1⟩

/-- The four ways in. -/
theorem witness_RtiUndoesEntry :
    plain.inv = true ∧ stackInRam 4 plain ∧ goesOn (exec (.brk 0x00) plain) = true ∧
      goesOn (exec (.cop 0x00) plain) = true ∧ (takeNmi plain).regs.pc = 0x0000 ∧ (takeIrq plainE).regs.pc = 0x0000 :=
  ⟨by decide, (stack_of_ram rfl 4).2, by decide, by decide, by decide, by decide⟩

theorem witness_SubroutineReturns : plain.inv = true ∧ stackInMemory 2 plain ∧ stackInMemory 3 plain :=
  ⟨by decide, (stack_of_ram rfl 2).1, (stack_of_ram rfl 3).1⟩

theorem witness_ReturnUndoesCall :
    plain.inv = true ∧ stackInRam 3 plain ∧ goesOn (exec (.jsrAbs 0x1234) plain) = true ∧
      goesOn (exec (.jsrAbsXInd 0xFFFF) plain) = true ∧ goesOn (exec (.jsl 0xFFFFFF) plain) = true :=
  ⟨by decide, (stack_of_ram rfl 3).2, by decide, by decide, by decide⟩

/-- A taken and an untaken branch at the two ends of the offset. -/
theorem witness_Branches :
    (Instr.bcc 0x7F, true) ∈ [(Instr.bcc 0x7F, !plain.regs.p.c)] ∧
      (Instr.bcs 0x80, false) ∈ [(Instr.bcs 0x80, plain.regs.p.c)] := by decide

/-- The pointer at the end of its bank. -/
theorem witness_Jumps :
    isMemory plain (bankAddr 0x00 0xFFFF) = true ∧ isMemory plain (bankAddr 0x00 (0xFFFF + 1)) = true ∧
      isMemory plain (bankAddr 0x00 (0xFFFF + 2)) = true ∧ isMemory plain (indexedPointer plain 0xFFFF 0) = true ∧
      isMemory plain (indexedPointer plain 0xFFFF 1) = true := by decide

theorem witness_Calls :
    plain.inv = true ∧ isMemory plain (indexedPointer plain 0x01FE 0) = true ∧
      isMemory plain (indexedPointer plain 0x01FE 1) = true := by decide

/-- The last pass, C = 0, and one before it. -/
theorem witness_BlockMovePass :
    plain.mem.wf = true ∧ plain.params.blockMoveInterruptible = .perByte ∧ plain.regs.c = 0x0000 ∧
      (plain.withRegs fun r => { r with c := 0xFFFF }).mem.wf = true ∧
      isMemory plain (bankAddr 0xFF plain.regs.x) = true := by decide

theorem witness_BlockMoveWhole : atomicMove.params.blockMoveInterruptible = .atomic := by decide

theorem witness_BlockMovePassesMakeTheWhole :
    atomicMove.params.blockMoveInterruptible = .atomic ∧ goesOn (exec (.mvn 0x01 0x02) atomicMove) = true ∧
      goesOn (exec (.mvp 0x01 0x02) atomicMove) = true := by decide

theorem witness_RegisterWriters :
    (goesOn (exec (.adcLong 0xFFFFFF) plainE) = true ∧ (∀ al, Instr.adcLong 0xFFFFFF ≠ .jmpLong al) ∧
      Mnemonic.adc ∉ [.jml, .jsl, .rtl, .rti, .brk, .cop]) ∧ plainE.inv = true ∧ goesOn (exec .nop plainE) = true ∧ Mnemonic.nop ∉ accWriters ++ wholeCWriters ∧
      plainE.regs.p.m = true ∧ Mnemonic.nop ∉ xWriters ∧ Mnemonic.nop ∉ yWriters ∧ Mnemonic.nop ∉ sWriters ∧
      goesOn (exec .rti plainE) = true ∧ plainE.regs.e = true := by
  refine ⟨⟨by decide, (fun _ h => by cases h), by decide⟩, ?_⟩
  decide

theorem witness_FlagWriters :
    goesOn (exec (.bitImm 0x00FF) plain) = true ∧ (Instr.bitImm 0x00FF).mode = .immediate ∧
      goesOn (exec .plp plainE) = true ∧ plainE.regs.e = true ∧ Mnemonic.plp ∈ pLoaders ∧ Mnemonic.nop ∉ nWriters ∧
      Mnemonic.nop ∉ vWriters ∧ Mnemonic.nop ∉ cWriters := by decide

theorem witness_MemoryWriters :
    Mnemonic.lda ∉ storers ∧ goesOn (exec (.ldaAbs 0xFFFF) plain) = true ∧ Instr.incAcc ∈ accumulatorForms ∧
      goesOn (exec .incAcc plain) = true := by decide

theorem witness_OnlyRamChanges :
    mixedMap.mem.wf = true ∧ goesOn (step mixedMap) = true ∧ mixedMap.kindAt 0x010000 ≠ .ram ∧
      mixedMap.kindAt 0x02FFFF ≠ .ram ∧ mixedMap.kindAt 0x030000 ≠ .ram := by decide

/-- The top of the address space: the third byte is at 000000H. Formats F3, FM and FX with two operand bytes, F4 with
three, the byte order written out from R94. -/
theorem witness_LittleEndian :
    (plain.mem.wf = true ∧ ∀ k < 3, plain.kindAt (0xFFFFFE + BitVec.ofNat 24 k) = .ram) ∧
    (decode true true [0x4C, 0x34, 0x12, 0xFF] = .ok (.jmpAbs 0x1234, [0xFF]) ∧ (Instr.jmpAbs 0x1234).mnemonic ∉ [.mvn, .mvp] ∧
      operandNumber (.jmpAbs 0x1234) = some (0x34 + 256 * 0x12)) ∧
    (decode false true [0xA9, 0x34, 0x12, 0xFF] = .ok (.ldaImm 0x1234, [0xFF]) ∧
      decode true false [0xC0, 0xFE, 0xFF, 0xFF] = .ok (.cpyImm 0xFFFE, [0xFF])) ∧
    decode false false [0x22, 0x56, 0x34, 0x12] = .ok (.jsl 0x123456, []) := by decide

/-- The three wrap patterns at their edges. -/
theorem witness_ReadAfterWrite :
    plain.mem.wf = true ∧ plain.kindAt ((EA.bank 0x00 0xFFFF).byteAddr 0) = .ram ∧
      plain.kindAt ((EA.bank 0x00 0xFFFF).byteAddr 1) = .ram ∧ (EA.bank 0x00 0xFFFF).byteAddr 1 = 0x000000 ∧
      (EA.lin 0xFFFFFF).byteAddr 1 = 0x000000 ∧ (EA.page 0x12FF).byteAddr 1 = 0x001200 := by decide

/-- The page wrap in force and not, and an operand whose two bytes are the last and the first of the address space. -/
theorem witness_EffectiveAddresses :
    (isMemory plain 0xFFFFFF = true ∧ (0xFFFFFF : Addr) + 1 = 0x000000 ∧ isMemory plain 0x000000 = true) ∧
    (wrapping.params.emuPageWrap = .page ∧ wrapping.regs.e = true ∧ lo wrapping.regs.dr = 0x00) ∧
      ¬ (plain.params.emuPageWrap = .page ∧ plain.regs.e = true ∧ lo plain.regs.dr = 0x00) := by decide

/-- A pointer at the end of the direct page, with and without the page wrap. -/
theorem witness_IndirectAddresses :
    wrapping.pageWraps = true ∧ plain.pageWraps = false ∧ isMemory wrapping 0x0000FF = true ∧
      isMemory wrapping 0x000000 = true ∧ isMemory plain 0x0000FF = true ∧ isMemory plain 0x000100 = true ∧
      isMemory plain 0x000101 = true ∧ isMemory plain 0x0002FE = true ∧ isMemory plain 0x0002FF = true ∧
      (0 : Nat) = (plain.byteAt 0x0000FF).toNat + 256 * (plain.byteAt 0x000100).toNat +
        65536 * (plain.byteAt 0x000101).toNat := by decide

/-- Devices at an operand's two bytes, and at the two bytes of a push. -/
theorem witness_DeviceAccessOrder :
    (mixedMap.kindAt ((EA.lin 0x010000).byteAddr 0) = .device ∧ mixedMap.kindAt ((EA.lin 0x010000).byteAddr 1) = .device) ∧
    (let s := plain.withParams fun q => { q with memMap := [⟨0x000000, 0x000FFF, .device⟩] }
     s.kindAt ((EA.lin 0x000FFE).byteAddr 0) = .device ∧ s.kindAt ((EA.lin 0x000FFE).byteAddr 1) = .device ∧
      s.regs.inv = true ∧ s.kindAt (slot s.regs 0) = .device ∧ s.kindAt (slot s.regs (-1)) = .device) ∧
    (mixedMap.inv = true ∧ goesOn (exec (.incAbs 0xFFFF) mixedMap) = true ∧
      (Instr.incAbs 0xFFFF).dataOperand = some (.mem (.abs 0xFFFF))) ∧
    (goesOn (exec .pha mixedMap) = true ∧ (Instr.pha, pushWrites 0 (pushWord mixedMap.regs.c) mixedMap.regs) ∈
      [(Instr.pha, pushWrites 0 (pushBytes mixedMap.regs.p.m mixedMap.regs.c) mixedMap.regs)]) ∧
    (goesOn (exec .inx mixedMap) = true ∧ (Instr.inx).dataOperand = none ∧ Mnemonic.inx ∉ stackAndPointerUsers) ∧
    (goesOn (exec (.mvn 0x01 0x02) mixedMap) = true ∧ mixedMap.params.blockMoveInterruptible = .perByte ∧
      isMemory mixedMap (bankAddr 0x02 mixedMap.regs.x) = true) := by decide

/-- A 16-bit store to a device, seen as R69 says: the low byte first. -/
theorem test_device_sees_store :
    (match exec (.staLong 0x010000) mixedMap with
      | .next t => t.deviceLog == [.write 0x010001 0x00, .write 0x010000 0x00]
      | .fault _ => false
      | .refused _ => false) = true := by decide

theorem witness_FreeValuesOnlyWhereTheSpecLeavesThem :
    (∀ a, isMemory plain a = true) ∧ goesOn (exec (.ldaAbs 0x1234) plain) = true ∧ plain.regs.p.d = false ∧
      plain.regs.e = false := ⟨fun _ => rfl, by decide, by decide, by decide⟩

/-- From reset, a word of the opcode table is placed where the next step fetches, decodes, and runs first (log 18). -/
theorem test_withFetchWord :
    decodeTableWord 16 0x42A9 = some (.ldaImm 0x0042) ∧
      (match step (State.reset.withFetchWord 16 0x42A9) with
        | .next t => t.regs.c == 0x0042 && t.regs.pc == 0x0002
        | .fault _ => false
        | .refused _ => false) = true := by decide

end Sys2Proof.Tests
end

section
/-! PROOFS. Group 4, implied instructions: what `impliedOp` leaves, and the encoding of an instruction without operand
bytes; with them the flag instructions, NOP and WDM. -/

namespace Sys2Proof.Machine

/-- An implied instruction that changes the flags by `f` leaves everything else but PC (R126, R215). -/
theorem impliedOp_onFlags (f : Status → Status) (s : State) :
    impliedOp (Regs.onFlags f) s = { s with regs := { s.regs with p := f s.regs.p, pc := s.regs.pc + 1 } } := rfl

/-- An implied instruction that changes no register moves PC alone. -/
theorem impliedOp_id (s : State) : impliedOp id s = { s with regs := { s.regs with pc := s.regs.pc + 1 } } := rfl

theorem onRegs_advance (n : Nat) (s : State) :
    s.onRegs (Regs.advance n) = { s with regs := { s.regs with pc := s.regs.pc + BitVec.ofNat 16 n } } := rfl

/-- One byte under all flags, where no operand bytes follow the opcode (R94). -/
theorem encode_of_operands_none {i : Instr} (h : i.coding.operands = .none) (m x : Bool) :
    encode m x i = [i.coding.opcode] := by
  simp [encode, h, OperandBytes.bytes]

/-- Two bytes under all flags, where one operand byte follows the opcode (R94). -/
theorem encode_of_operands_byte {i : Instr} {b : Byte} (h : i.coding.operands = .byte b) (m x : Bool) :
    encode m x i = [i.coding.opcode, b] := by
  simp [encode, h, OperandBytes.bytes]

end Sys2Proof.Machine

namespace Sys2Proof

open Sys2Proof.Machine

/-- Settles O30: each of the seven is `impliedOp` of one change of the flags, and has no operand bytes. -/
theorem flagInstructions : Obligations.FlagInstructions := by
  unfold Obligations.FlagInstructions
  refine ⟨fun m x => ?_, fun s => ?_⟩
  · have oneByte {i : Instr} (h : i.coding.operands = .none) := encode_of_operands_none h m x
    exact ⟨oneByte rfl, oneByte rfl, oneByte rfl, oneByte rfl, oneByte rfl, oneByte rfl, oneByte rfl⟩
  · have leaves (f : Status → Status) :=
      congrArg (Host.Outcome.next (φ := Fault) (ρ := Refusal)) (impliedOp_onFlags f s)
    exact ⟨leaves _, leaves _, leaves _, leaves _, leaves _, leaves _, leaves _⟩

/-- Settles O35: NOP is `impliedOp` of no change, WDM moves PC over itself and its second byte. -/
theorem noOperations : Obligations.NoOperations := by
  unfold Obligations.NoOperations
  intro s b
  refine ⟨fun m x => ⟨?_, ?_⟩, ?_, ?_⟩
  · exact encode_of_operands_none rfl m x
  · exact encode_of_operands_byte rfl m x
  · exact congrArg Host.Outcome.next (impliedOp_id s)
  · exact congrArg Host.Outcome.next (onRegs_advance 2 s)

end Sys2Proof
end

section
/-! PROOFS. The decoder and the encoder: the matrix entry of an instruction's opcode makes that instruction, and
what decodes is what the matrix entry of the opcode builds. -/

namespace Sys2Proof

open Sys2Proof.Machine

/-! ### The matrix (R95) holds each instruction at the opcode its list gives it (R96), format by format -/

theorem opRow_of_none {i : Instr} (h : i.coding.operands = .none) : opRow i.coding.opcode = .f1 i := by
  cases i <;> cases h <;> dsimp only [Instr.coding] <;> rfl

theorem opRow_of_byte {i : Instr} {b : Byte} (h : i.coding.operands = .byte b) :
    ∃ k, opRow i.coding.opcode = .f2 k ∧ k b = i := by
  cases i <;> cases h <;> dsimp only [Instr.coding] <;> exact ⟨_, rfl, rfl⟩

theorem opRow_of_word {i : Instr} {a : Word} (h : i.coding.operands = .word a) :
    ∃ k, opRow i.coding.opcode = .f3 k ∧ k a = i := by
  cases i <;> cases h <;> dsimp only [Instr.coding] <;> exact ⟨_, rfl, rfl⟩

theorem opRow_of_banks {i : Instr} {dst src : Byte} (h : i.coding.operands = .banks dst src) :
    ∃ k, opRow i.coding.opcode = .f3b k ∧ k dst src = i := by
  cases i <;> cases h <;> dsimp only [Instr.coding] <;> exact ⟨_, rfl, rfl⟩

theorem opRow_of_long {i : Instr} {a : Addr} (h : i.coding.operands = .long a) :
    ∃ k, opRow i.coding.opcode = .f4 k ∧ k a = i := by
  cases i <;> cases h <;> dsimp only [Instr.coding] <;> exact ⟨_, rfl, rfl⟩

theorem opRow_of_immM {i : Instr} {v : Word} (h : i.coding.operands = .immM v) :
    ∃ k, opRow i.coding.opcode = .fm k ∧ k v = i ∧ ∀ m x, i.wellFormed m x = fitsWidth m v := by
  cases i <;> cases h <;> dsimp only [Instr.coding] <;> exact ⟨_, rfl, rfl, fun _ _ => rfl⟩

theorem opRow_of_immX {i : Instr} {v : Word} (h : i.coding.operands = .immX v) :
    ∃ k, opRow i.coding.opcode = .fx k ∧ k v = i ∧ ∀ m x, i.wellFormed m x = fitsWidth x v := by
  cases i <;> cases h <;> dsimp only [Instr.coding] <;> exact ⟨_, rfl, rfl, fun _ _ => rfl⟩

/-- Decoding an encoding gives the instruction back, format by format. -/
theorem decode_encode {i : Instr} {m x : Bool} (rest : List Byte) (h : i.wellFormed m x = true) :
    decode m x (encode m x i ++ rest) = .ok (i, rest) := by
  cases ho : i.coding.operands <;> simp only [encode, ho, OperandBytes.bytes, List.cons_append, List.nil_append]
  case none => exact decode_f1 (opRow_of_none ho)
  case byte b =>
    obtain ⟨k, hr, hk⟩ := opRow_of_byte ho
    rw [decode_f2 hr, hk]
  case word a =>
    obtain ⟨k, hr, hk⟩ := opRow_of_word ho
    rw [decode_f3 hr, hk]
  case banks dst src =>
    obtain ⟨k, hr, hk⟩ := opRow_of_banks ho
    rw [decode_f3b hr, hk]
  case long a =>
    obtain ⟨k, hr, hk⟩ := opRow_of_long ho
    rw [decode_f4 hr, hk]
  case immM v =>
    obtain ⟨k, hr, hk, hw⟩ := opRow_of_immM ho
    rw [decode_fm hr (hw m x ▸ h), hk]
  case immX v =>
    obtain ⟨k, hr, hk, hw⟩ := opRow_of_immX ho
    rw [decode_fx hr (hw m x ▸ h), hk]

/-- Settles O2: `decode_encode`, by the format of the instruction's matrix entry. -/
theorem encodingsRoundTrip : Obligations.EncodingsRoundTrip := by
  unfold Obligations.EncodingsRoundTrip
  exact fun _ _ _ rest h => decode_encode rest h

/-- An immediate read from bytes fits the width (R93). -/
theorem fitsWidth_immediate (flag : Bool) (b c : Byte) : fitsWidth flag (immediate flag b c) = true := by
  have := b.isLt
  cases flag
  · rfl
  · simpa [fitsWidth, immediate, word_toNat] using this

/-- What an entry of the matrix builds from three bytes is well formed and encodes to the opcode and as many of the
bytes as the entry has operand bytes. -/
theorem Row.agrees.encode_build {op : Byte} {r : Row} (h : r.agrees op) (m x : Bool) (b1 b2 b3 : Byte) :
    (r.build m x b1 b2 b3).wellFormed m x = true ∧
      encode m x (r.build m x b1 b2 b3) = op :: [b1, b2, b3].take (r.operandCount m x) := by
  cases r <;> obtain ⟨_, _, h⟩ := h
  case f1 i => exact ⟨h.2 m x, by simp [Row.build, encode, h.1, OperandBytes.bytes, Row.operandCount]⟩
  case f2 k => exact ⟨(h b1).2 m x, by simp [Row.build, encode, (h b1).1, OperandBytes.bytes, Row.operandCount]⟩
  case f3 k => exact ⟨(h _).2 m x, by simp [Row.build, encode, (h _).1, OperandBytes.bytes, Row.operandCount]⟩
  case f3b k => exact ⟨(h b1 b2).2 m x, by simp [Row.build, encode, (h b1 b2).1, OperandBytes.bytes, Row.operandCount]⟩
  case f4 k => exact ⟨(h _).2 m x, by simp [Row.build, encode, (h _).1, OperandBytes.bytes, Row.operandCount]⟩
  case fm k =>
    refine ⟨((h _).2 m x).trans (fitsWidth_immediate m b1 b2), ?_⟩
    cases m <;> simp [Row.build, encode, (h _).1, OperandBytes.bytes, Row.operandCount, immediate]
  case fx k =>
    refine ⟨((h _).2 m x).trans (fitsWidth_immediate x b1 b2), ?_⟩
    cases x <;> simp [Row.build, encode, (h _).1, OperandBytes.bytes, Row.operandCount, immediate]

theorem Row.operandCount_le (m x : Bool) (r : Row) : r.operandCount m x ≤ 3 := by
  cases r <;> simp only [Row.operandCount] <;> first | omega | split <;> omega

/-- The first operand bytes of a list, padded with zeros to three, are the first bytes of the list. -/
theorem take_getD_three {n : Nat} (bs : List Byte) (h : n ≤ 3) (hl : n ≤ bs.length) :
    [bs.getD 0 0x00#8, bs.getD 1 0x00#8, bs.getD 2 0x00#8].take n = bs.take n := by
  match n, bs, h, hl with
  | 0, _, _, _ => rfl
  | 1, _ :: _, _, _ => rfl
  | 2, _ :: _ :: _, _, _ => rfl
  | 3, _ :: _ :: _ :: _, _, _ => rfl

/-- When decoding succeeds, and what it then gives. -/
theorem decode_eq_ok_iff {m x : Bool} {op : Byte} {bs rest : List Byte} {i : Instr} :
    decode m x (op :: bs) = .ok (i, rest) ↔
      (opRow op).operandCount m x ≤ bs.length ∧
      i = (opRow op).build m x (bs.getD 0 0x00#8) (bs.getD 1 0x00#8) (bs.getD 2 0x00#8) ∧
      rest = bs.drop ((opRow op).operandCount m x) := by
  by_cases h : bs.length < (opRow op).operandCount m x
  · simp [decode, h]
  · simp [decode, h, Nat.not_lt.mp h, eq_comm]

/-- What decodes is well formed and encodes to the bytes it was read from. -/
theorem encode_of_decode {m x : Bool} {bs rest : List Byte} {i : Instr} (h : decode m x bs = .ok (i, rest)) :
    i.wellFormed m x = true ∧ encode m x i ++ rest = bs := by
  cases bs with
  | nil => cases h
  | cons op bs =>
    obtain ⟨hl, rfl, rfl⟩ := decode_eq_ok_iff.mp h
    obtain ⟨hw, he⟩ := (opRow_agrees op).encode_build m x (bs.getD 0 0x00#8) (bs.getD 1 0x00#8) (bs.getD 2 0x00#8)
    refine ⟨hw, ?_⟩
    rw [he, take_getD_three bs (Row.operandCount_le m x _) hl, List.cons_append, List.take_append_drop]

/-- Settles O3: `encode_of_decode`, by the matrix entry of the first byte. -/
theorem decodedBytesReencode : Obligations.DecodedBytesReencode := by
  unfold Obligations.DecodedBytesReencode
  exact fun _ _ _ _ _ h => encode_of_decode h

/-- Mnemonic and mode of what an entry builds depend on neither flags nor operand bytes (R98). -/
theorem Row.agrees.mnemonic_mode {op : Byte} {r : Row} (h : r.agrees op) : ∃ n d, ∀ m x b1 b2 b3,
    (r.build m x b1 b2 b3).mnemonic = n ∧ (r.build m x b1 b2 b3).mode = d := by
  cases r <;> obtain ⟨n, d, h⟩ := h <;> refine ⟨n, d, fun m x b1 b2 b3 => ?_⟩
  case f1 => simp [Row.build, Instr.mnemonic, Instr.mode, h.1]
  case f3b => simp [Row.build, Instr.mnemonic, Instr.mode, (h _ _).1]
  all_goals simp [Row.build, Instr.mnemonic, Instr.mode, (h _).1]

/-- Settles O4: four bytes always hold the instruction of the matrix entry of the first (`decode_eq_ok_iff`). -/
theorem everyOpcodeIsAnInstruction : Obligations.EveryOpcodeIsAnInstruction := by
  unfold Obligations.EveryOpcodeIsAnInstruction
  refine ⟨fun op b1 b2 b3 m x m' x' rest => ?_, rfl, rfl, fun _ => rfl⟩
  obtain ⟨n, d, hk⟩ := (opRow_agrees op).mnemonic_mode
  have enough (m x : Bool) : (opRow op).operandCount m x ≤ (b1 :: b2 :: b3 :: rest).length :=
    (Row.operandCount_le m x _).trans (by simp)
  have hd := decode_eq_ok_iff.mpr ⟨enough m x, rfl, rfl⟩
  have hc := Row.operandCount_le m x (opRow op)
  obtain ⟨-, he⟩ := (opRow_agrees op).encode_build m x b1 b2 b3
  refine ⟨_, _, _, _, hd, decode_eq_ok_iff.mpr ⟨enough m' x', rfl, rfl⟩, ?_, ?_, ?_, ?_, ?_, ?_⟩
  · exact congrArg List.head? he
  · exact Nat.succ_le_succ (Nat.zero_le _)
  · exact (congrArg List.length he).trans_le (by simp)
  · exact (congrArg (_ + ·) (congrArg List.length he)).trans (by simp; omega)
  · exact ((hk ..).1).trans ((hk ..).1).symm
  · exact ((hk ..).2).trans ((hk ..).2).symm

/-- Settles O1: each of the words is decoded by evaluation. -/
theorem sampleWordsDecode : Obligations.SampleWordsDecode := by
  unfold Obligations.SampleWordsDecode
  exact ⟨rfl, rfl, rfl, rfl, rfl, rfl, rfl, rfl, rfl, rfl, rfl, rfl, rfl, rfl, rfl, rfl, rfl⟩

/-- Settles O5: for each instruction under each setting of the flags both sides evaluate to one number. -/
theorem instructionLengths : Obligations.InstructionLengths := by
  unfold Obligations.InstructionLengths
  intro i m x
  cases i <;> cases m <;> cases x <;> rfl

end Sys2Proof
end

section
/-! PROOFS. The invariant (R23, R24, R30, memory in canonical form): every meaning keeps it, so every step does. -/

namespace Sys2Proof.Machine

/-! ### The meanings of groups 1 to 3 -/

theorem drawBit_inv {s : State} (h : s.inv = true) : (drawBit s).2.inv = true := State.inv_congr rfl rfl h

theorem decimalResult_inv (w : Width) (q : Word × Bool) {s : State} (h : s.inv = true) :
    (decimalResult w q s).inv = true :=
  State.onRegs_inv (drawBit_inv h) id

theorem decimalInvalid_inv {s : State} (h : s.inv = true) : (decimalInvalid s).inv = true :=
  State.inv_congr (s := s.onRegs fun g => { g with c := (decimalInvalid s).regs.c, p := (decimalInvalid s).regs.p })
    rfl rfl (State.onRegs_inv h id)

theorem addToAcc_inv (w : Width) (m : Word) {s : State} (h : s.inv = true) : (addToAcc w m s).inv = true := by
  unfold addToAcc
  dsimp only
  split_ifs
  · exact decimalResult_inv _ _ h
  · exact decimalInvalid_inv h
  · exact State.onRegs_inv h id

theorem subFromAcc_inv (w : Width) (m : Word) {s : State} (h : s.inv = true) : (subFromAcc w m s).inv = true := by
  unfold subFromAcc
  dsimp only
  split_ifs
  · exact decimalResult_inv _ _ h
  · exact decimalInvalid_inv h
  · exact State.onRegs_inv h id

/-- Reading an operand and going on keeps the invariant where what is done with the operand does. -/
theorem withAccOperand_inv {f : Width → Word → State → State} (hf : ∀ w m t, t.inv = true → (f w m t).inv = true)
    (o : Operand) {s : State} (h : s.inv = true) : (withAccOperand f o s).inv = true :=
  State.onRegs_inv (hf _ _ _ (loadOperand_inv o _ h)) id

theorem withIndexOperand_inv {f : Width → Word → Regs → Regs} (hf : ∀ w m r, r.inv = true → (f w m r).inv = true)
    (o : Operand) {s : State} (h : s.inv = true) : (withIndexOperand f o s).inv = true :=
  State.onRegs_inv (loadOperand_inv o _ h) (hf _ _ _)

theorem effAddr_inv (md : MemMode) {s : State} (h : s.inv = true) : (effAddr md s).2.inv = true :=
  State.inv_congr (by simp) (by simp) h

theorem loadEA_inv (ea : EA) (w : Width) {s : State} (h : s.inv = true) : (loadEA ea w s).2.inv = true :=
  State.inv_congr (by simp) (by simp) h

theorem bitTest_inv (o : Operand) {s : State} (h : s.inv = true) : (bitTest o s).inv = true := by
  cases o with
  | imm v => exact State.onRegs_inv h id
  | mem md => exact State.onRegs_inv (loadOperand_inv (.mem md) _ h) id

theorem modifyMem_inv (f : Width → Word → Bool → Word × Bool) (md : MemMode) {s : State} (h : s.inv = true) :
    (modifyMem f md s).inv = true :=
  State.onRegs_inv (storeBackEA_inv _ _ _ (loadEA_inv _ _ (effAddr_inv md h))) id

theorem testModify_inv (f : Word → Word → Word) (md : MemMode) {s : State} (h : s.inv = true) :
    (testModify f md s).inv = true :=
  State.onRegs_inv (storeBackEA_inv _ _ _ (loadEA_inv _ _ (effAddr_inv md h))) id

/-- Every instruction with a data operand keeps the invariant. -/
theorem operandMeaning_inv (k : Mnemonic) (o : Operand) {s : State} (h : s.inv = true) :
    (operandMeaning k o s).inv = true := by
  unfold operandMeaning
  split
  case h_1 => exact withAccOperand_inv (fun _ _ _ => addToAcc_inv _ _) _ h
  case h_7 => exact withAccOperand_inv (fun _ _ _ => subFromAcc_inv _ _) _ h
  case h_2 | h_3 | h_4 | h_5 | h_6 => exact withAccOperand_inv (fun _ _ _ ht => State.onRegs_inv ht id) _ h
  case h_8 => exact bitTest_inv _ h
  case h_9 => exact withIndexOperand_inv (fun _ _ _ => Regs.setX_inv _) _ h
  case h_10 => exact withIndexOperand_inv (fun _ _ _ => Regs.setY_inv _) _ h
  case h_11 | h_12 => exact withIndexOperand_inv (fun _ _ _ hr => hr) _ h
  case h_13 | h_14 | h_15 | h_16 => exact State.onRegs_inv (storeMem_inv _ _ _ h) id
  case h_17 | h_18 | h_19 | h_20 | h_21 | h_22 => exact modifyMem_inv _ _ h
  case h_23 | h_24 => exact testModify_inv _ _ h
  case h_25 => exact h

/-! ### The block moves -/

theorem stepIndex_hi {flag : Bool} (h : flag = true) (down : Bool) (v : Word) :
    hi (stepIndex down (Width.ofFlag flag) v) = 0x00#8 := hi_trunc_ofFlag h _

theorem blockPass_inv (down : Bool) (dst src : Byte) {s : State} (h : s.inv = true) :
    (blockPass down dst src s).inv = true := by
  unfold blockPass
  refine State.onRegs_inv (writeByte_inv _ _ (State.inv_congr (s := s.onRegs fun g => { g with dbr := dst })
    (by simp) (by simp) (State.onRegs_inv h id))) fun hr => ?_
  rw [Regs.inv_iff] at hr ⊢
  exact ⟨hr.1, fun hx => ⟨stepIndex_hi hx _ _, stepIndex_hi hx _ _⟩, hr.2.2⟩

theorem blockFinish_inv {s : State} (h : s.inv = true) : (blockFinish s).inv = true := State.onRegs_inv h id

theorem blockCount_inv {s : State} (h : s.inv = true) : (blockCount s).inv = true := State.onRegs_inv h id

theorem blockLoop_inv (down : Bool) (dst src : Byte) (n : Nat) {s : State} (h : s.inv = true) :
    (blockLoop down dst src n s).inv = true := by
  induction n generalizing s with
  | zero => exact blockFinish_inv (blockPass_inv down dst src h)
  | succ n ih => exact ih (blockCount_inv (blockPass_inv down dst src h))

theorem blockMove_inv (negative : Bool) (dst src : Byte) {s : State} (h : s.inv = true) :
    (blockMove negative dst src s).inv = true := by
  unfold blockMove
  dsimp only
  split
  · exact blockLoop_inv _ dst src _ h
  · split
    · exact blockFinish_inv (blockPass_inv _ dst src h)
    · exact blockCount_inv (blockPass_inv _ dst src h)

/-! ### The other meanings -/

theorem modifyAcc_inv (f : Width → Word → Bool → Word × Bool) {s : State} (h : s.inv = true) :
    (modifyAcc f s).inv = true := State.onRegs_inv h id

theorem txsOp_inv {s : State} (h : s.inv = true) : (txsOp s).inv = true := by
  unfold txsOp impliedOp
  refine State.onRegs_inv h fun hr => ?_
  simp only [Regs.advance_inv]
  cases s.params.txsSetsNZ
  · exact Regs.setS_inv _ hr
  · exact (Regs.setNZ_inv ..).trans (Regs.setS_inv _ hr)

theorem branchIf_inv (cond : Status → Bool) (off : Byte) {s : State} (h : s.inv = true) :
    (branchIf cond off s).inv = true := by
  refine State.onRegs_inv h fun hr => ?_
  split
  · exact hr
  · exact hr

theorem jumpThrough_inv (ea : EA) {s : State} (h : s.inv = true) : (jumpThrough ea s).inv = true :=
  State.onRegs_inv (read16_inv ea h) id

theorem jmlOp_inv (a : Word) {s : State} (h : s.inv = true) : (jmlOp a s).inv = true :=
  State.onRegs_inv (State.inv_congr (by simp) (by simp) h) id

theorem pullOp_inv (w : Width) {f : Word → Regs → Regs} (hf : ∀ v r, r.inv = true → (f v r).inv = true)
    {s : State} (h : s.inv = true) : (pullOp w f s).inv = true :=
  State.onRegs_inv (pullWidth_inv w h) (hf _ _)

theorem copOp_inv {s : State} (h : s.inv = true) : (copOp s).inv = true := by
  unfold copOp
  split
  · exact enter_inv _ _ _ (drawBit_inv h)
  · exact enter_inv _ _ _ h

/-- Every instruction keeps the invariant: those with a data operand by `operandMeaning_inv`, the rest one by one. -/
theorem exec_inv {i : Instr} {s t : State} (h : s.inv = true) (ht : exec i s = .next t) : t.inv = true := by
  by_cases ho : ∃ o, i.dataOperand = some o
  · obtain ⟨o, ho⟩ := ho
    rw [exec_of_dataOperand ho] at ht
    cases ht
    exact operandMeaning_inv _ _ h
  · cases i <;> try exact absurd ⟨_, rfl⟩ ho
    all_goals have ht := Host.Outcome.next.inj ht; subst ht
    case rorAcc | aslAcc | lsrAcc | rolAcc | incAcc | decAcc => exact modifyAcc_inv _ h
    case rep | sep => exact State.onRegs_inv h (Regs.unpackP_inv _)
    case inx | dex | tax | tsx | tyx => exact State.onRegs_inv h (Regs.resultX_inv _)
    case iny | dey | tay | txy => exact State.onRegs_inv h (Regs.resultY_inv _)
    case txa | tya | clc | cld | cli | clv | sec | sed | sei | tcd | tdc | tsc | xba | wdm | nop =>
      exact State.onRegs_inv h id
    case txs => exact txsOp_inv h
    case tcs => exact State.onRegs_inv h (Regs.setS_inv _)
    case xce => exact State.onRegs_inv h Regs.exchangeCE_inv
    case stp | wai => exact State.inv_congr rfl rfl (State.onRegs_inv (f := Regs.advance 1) h id)
    case pha | phx | phy => exact State.onRegs_inv (pushWidth_inv _ _ h) id
    case phb | phk | php => exact State.onRegs_inv (push8_inv _ h) id
    case phd | pea | per => exact State.onRegs_inv (push16_inv _ h) id
    case pei => exact State.onRegs_inv (push16_inv _ (read16_inv _ h)) id
    case pla => exact pullOp_inv _ (fun _ _ hr => hr) h
    case plx => exact pullOp_inv _ (fun _ _ => Regs.resultX_inv _) h
    case ply => exact pullOp_inv _ (fun _ _ => Regs.resultY_inv _) h
    case pld => exact pullOp_inv _ (fun _ _ hr => hr) h
    case plb => exact State.onRegs_inv (pull8_inv h) id
    case plp => exact State.onRegs_inv (pull8_inv h) (Regs.unpackP_inv _)
    case brk => exact enter_inv _ _ _ h
    case cop => exact copOp_inv h
    case rti => exact returnFromInterrupt_inv h
    case rts => exact State.onRegs_inv (pull16_inv h) id
    case rtl => exact State.onRegs_inv (pull8_inv (pull16_inv h)) id
    case bcc | bcs | beq | bmi | bne | bpl | bra | bvc | bvs => exact branchIf_inv _ _ h
    case brl | jmpAbs | jmpLong => exact State.onRegs_inv h id
    case jmpAbsInd | jmpAbsXInd => exact jumpThrough_inv _ h
    case jml => exact jmlOp_inv _ h
    case jsrAbs => exact State.onRegs_inv (push16_inv _ h) id
    case jsrAbsXInd => exact jumpThrough_inv _ (push16_inv _ h)
    case jsl => exact State.onRegs_inv (push16_inv _ (push8_inv _ h)) id
    case mvn | mvp => exact blockMove_inv _ _ _ h

/-! ### The step -/

/-- Taking the platform's input touches neither registers nor memory, and reads no parameter. -/
theorem takeInput_frame (s : State) :
    (takeInput s).regs = s.regs ∧ (takeInput s).mem = s.mem ∧ (takeInput s).params = s.params ∧
      (takeInput s).run = s.run ∧ (takeInput s).draws = s.draws ∧ (takeInput s).deviceLog = s.deviceLog := by
  unfold takeInput
  split <;> exact ⟨rfl, rfl, rfl, rfl, rfl, rfl⟩

/-- What a step is, by the boundary it starts at (R362). -/
theorem step_of_done {s t : State} (h : boundary (takeInput s) = .done t) : step s = .next t := by
  simp only [step, h]

theorem step_of_execute {s t : State} (h : boundary (takeInput s) = .execute t) :
    step s = exec (fetchInstr t).1 (fetchInstr t).2 := by
  simp only [step, h]

/-- What a boundary can lead to: one of the next states of its first four branches, or an instruction in this state,
running. -/
theorem boundary_cases (s : State) :
    (∃ t, boundary s = .done t ∧ (t = resetSequence s ∨ t = s ∨ t = takeNmi s ∨ t = takeIrq s)) ∨
      boundary s = .execute { s with run := .running } := by
  unfold boundary
  split_ifs with h1 h2 h3 h4 h5 h6
  · exact .inl ⟨_, rfl, .inl rfl⟩
  · exact .inl ⟨_, rfl, .inr (.inl rfl)⟩
  · exact .inl ⟨_, rfl, .inr (.inr (.inl rfl))⟩
  · exact .inl ⟨_, rfl, .inr (.inr (.inr rfl))⟩
  · exact .inr rfl
  · exact .inl ⟨_, rfl, .inr (.inl rfl)⟩
  · have hr : s.run = .running := by cases hr : s.run <;> simp_all
    exact .inr (by rw [← hr])

theorem takeNmi_inv {s : State} (h : s.inv = true) : (takeNmi s).inv = true :=
  enter_inv _ _ _ (State.inv_congr rfl rfl h)

theorem takeIrq_inv {s : State} (h : s.inv = true) : (takeIrq s).inv = true := enter_inv _ _ _ h

theorem step_inv {s t : State} (h : s.inv = true) (ht : step s = .next t) : t.inv = true := by
  obtain ⟨hr, hm, -⟩ := takeInput_frame s
  have hi : (takeInput s).inv = true := State.inv_congr hr hm h
  obtain ⟨u, hb, hu⟩ | hb := boundary_cases (takeInput s)
  · rw [step_of_done hb] at ht
    cases ht
    obtain rfl | rfl | rfl | rfl := hu
    · exact resetSequence_inv ((State.inv_iff _).mp hi).2
    · exact hi
    · exact takeNmi_inv hi
    · exact takeIrq_inv hi
  · rw [step_of_execute hb] at ht
    exact exec_inv (State.inv_congr (s := takeInput s) (by simp) (by simp) hi) ht

/-! ### No instruction and no step stops the machine -/

theorem exec_total (i : Instr) (s : State) : ∃ t, exec i s = .next t := by
  cases i <;> exact ⟨_, rfl⟩

theorem step_total (s : State) : ∃ t, step s = .next t := by
  obtain ⟨u, hb, -⟩ | hb := boundary_cases (takeInput s)
  · exact ⟨u, step_of_done hb⟩
  · rw [step_of_execute hb]
    exact exec_total _ _

end Sys2Proof.Machine

namespace Sys2Proof

open Sys2Proof.Machine

/-- Settles O11: `step_inv`, from `exec_inv` and the laws of entry and reset. -/
theorem stepKeepsInvariant : Obligations.StepKeepsInvariant := by
  unfold Obligations.StepKeepsInvariant
  exact fun _ _ => step_inv

/-- Settles O8: every arm of `exec` is a next state, so every step is. -/
theorem noStepStops : Obligations.NoStepStops := by
  unfold Obligations.NoStepStops
  exact ⟨exec_total, step_total⟩

/-- Settles O9: by evaluation of the reset state. -/
theorem resetState : Obligations.ResetState := by
  unfold Obligations.ResetState
  decide

/-- Settles O10: the reset registers are those of `resetRegs`, and the empty memory is canonical. -/
theorem resetHoldsInvariant : Obligations.ResetHoldsInvariant := by
  unfold Obligations.ResetHoldsInvariant
  exact (State.inv_iff _).mpr ⟨resetRegs_inv 0x0000#16 0x00#8 0x00#8 0x00#8 false false false false, Memory.wf_nil⟩

end Sys2Proof
end

section
/-! PROOFS. The step (R362): where each branch of a boundary leads, what the fetch reads, and what a reset leaves. -/

namespace Sys2Proof.Machine

open Sys2Proof.Spec

/-! ### The branches of a boundary, in their order (R362) -/

theorem boundary_of_reset {s : State} (h : s.resetLine = true) : boundary s = .done (resetSequence s) := by
  simp [boundary, h]

section
variable {s : State} (hr : s.resetLine = false)
include hr

theorem boundary_of_stopped (h : s.run = .stopped) : boundary s = .done s := by
  simp [boundary, hr, h]

theorem boundary_of_waiting (hn : s.nmiPending = false) (h : s.irqLine = false)
    (hw : s.run = .waiting) : boundary s = .done s := by
  simp [boundary, hr, hn, h, hw]

variable (hs : s.run ≠ .stopped)
include hs

theorem boundary_of_nmi (h : s.nmiPending = true) : boundary s = .done (takeNmi s) := by
  simp [boundary, hr, hs, h]

variable (hn : s.nmiPending = false)
include hn

theorem boundary_of_irq (h : s.irqLine = true) (hi : s.regs.p.i = false) : boundary s = .done (takeIrq s) := by
  simp [boundary, hr, hs, hn, h, hi]

/-- Without an interrupt that is let through, a running processor fetches, and so does one that IRQ wakes (R365). -/
theorem boundary_of_execute (h : s.irqLine = false → s.run = .running) (hi : s.irqLine = true → s.regs.p.i = true) :
    boundary s = .execute { s with run := .running } := by
  have same (hrun : s.run = .running) : s = { s with run := .running } := by rw [← hrun]
  cases hrun : s.run with
  | stopped => exact absurd hrun hs
  | running =>
    rw [← same hrun]
    cases hq : s.irqLine
    · simp [boundary, hr, hn, hq, hrun]
    · simp [boundary, hr, hn, hq, hrun, hi hq]
  | waiting =>
    cases hq : s.irqLine
    · exact absurd (h hq) (by simp [hrun])
    · simp [boundary, hr, hn, hq, hrun, hi hq]

end

/-! ### The fetch -/

/-- The address of an instruction byte as a number (R27, R92). -/
theorem codeAddr_eq (r : Regs) (k : Nat) : codeAddr r k = r.fetchAddr k := by
  apply BitVec.eq_of_toNat_eq
  have := r.pbr.isLt
  simp only [codeAddr, Regs.fetchAddr, bankAddr_toNat, BitVec.toNat_ofNat, BitVec.toNat_add]
  omega

theorem isMemory_iff {s : State} {a : Addr} : isMemory s a = true ↔ s.kindAt a = .ram ∨ s.kindAt a = .rom := by
  simp [isMemory]

theorem codeInMemory_iff {n : Nat} {s : State} :
    s.codeInMemory n = true ↔ ∀ k < n, isMemory s (s.regs.fetchAddr k) = true := by
  simp [State.codeInMemory, isMemory]

/-- Reading instruction bytes in RAM or ROM gives them and changes nothing. -/
theorem fetchFrom_memory {s : State} (n k : Nat) (h : ∀ j < n, isMemory s (s.regs.fetchAddr (k + j)) = true) :
    fetchFrom k n s = ((List.range' k n).map fun j => s.byteAt (s.regs.fetchAddr j), s) := by
  induction n generalizing k with
  | zero => rfl
  | succ n ih =>
    have h0 := readByte_memory (isMemory_iff.mp (h 0 n.succ_pos))
    have hrest := ih (k + 1) fun j hj => by
      have := h (j + 1) (Nat.succ_lt_succ hj)
      rwa [Nat.add_comm j 1, ← Nat.add_assoc] at this
    simp only [Nat.add_zero] at h0
    simp [fetchFrom, h0, hrest, List.range'_succ]

/-- The bytes at PBR:PC: the opcode, then the others. -/
theorem codeBytes_succ (n : Nat) (s : State) :
    s.codeBytes (n + 1) =
      s.byteAt (s.regs.fetchAddr 0) :: (List.range' 1 n).map fun j => s.byteAt (s.regs.fetchAddr j) := by
  simp [State.codeBytes, List.range_eq_range', List.range'_succ]

/-- Where the code is memory that decodes to one instruction, the fetch gives it and changes nothing (R92, R93). -/
theorem fetchInstr_of_decode {s : State} {n : Nat} {i : Instr} (hm : s.codeInMemory n = true)
    (hd : decode s.regs.p.m s.regs.p.x (s.codeBytes n) = .ok (i, [])) : fetchInstr s = (i, s) := by
  cases n with
  | zero => cases hd
  | succ n =>
    rw [codeBytes_succ] at hd
    obtain ⟨hl, hi, hrest⟩ := decode_eq_ok_iff.mp hd
    rw [codeInMemory_iff] at hm
    have h0 := readByte_memory (isMemory_iff.mp (hm 0 n.succ_pos))
    have hn : (opRow (s.byteAt (s.regs.fetchAddr 0))).operandCount s.regs.p.m s.regs.p.x = n := by
      have := List.drop_eq_nil_iff.mp hrest.symm
      simp only [List.length_map, List.length_range'] at hl this
      omega
    have hf := fetchFrom_memory n 1 fun j hj => hm (1 + j) (by omega)
    simp [fetchInstr, h0, hn, hf, hi]

/-- The fetch reads code, parameters and flags alone, so a state that wakes fetches as it did. -/
theorem step_of_decode {s t : State} {n : Nat} {i : Instr} (hb : boundary (takeInput s) = .execute t)
    (hm : t.codeInMemory n = true) (hd : decode t.regs.p.m t.regs.p.x (t.codeBytes n) = .ok (i, [])) :
    step s = exec i t := by
  rw [step_of_execute hb, fetchInstr_of_decode hm hd]

theorem takeInput_of_nil {s : State} (h : s.inputs = []) : takeInput s = s := by
  simp [takeInput, h]

/-! ### Reset (R400) -/

theorem resetSequence_resets (s : State) : resets s (resetSequence s) := by
  refine ⟨?_, ?_, ?_, ?_, ?_, ?_, ?_, ?_, ?_, ?_, ?_, ?_, ?_, fun h0 h1 => ?_, ?_, ?_⟩
  case refine_14 =>
    have hv {t : State} (hp : t.params = s.params) (hm : t.mem = s.mem) :
        (read16 (EA.b0 resetVector) t).1 = word (s.byteAt 0x00FFFD#24) (s.byteAt 0x00FFFC#24) := by
      rw [isMemory_iff, ← kindAt_congr hp] at h0 h1
      rw [read16_memory (ea := EA.b0 resetVector) h0 h1]
      simp only [State.byteAt, hm]
      rfl
    simp only [resetSequence, State.onRegs_regs, Regs.jump]
    exact hv (by simp) (by simp)
  all_goals simp [resetSequence, resetRegs, Regs.jump]

/-- What `resets` says of the state before is its map and its bytes. -/
theorem resets_congr {s u t : State} (hm : u.mem = s.mem) (hp : u.params = s.params) (h : resets u t) :
    resets s t := by
  simpa [resets, isMemory, State.kindAt, State.byteAt, hm, hp] using h

theorem step_of_resetLine {s : State} (h : (takeInput s).resetLine = true) :
    ∃ t, step s = .next t ∧ resets s t ∧ t.resetLine = true ∧ t.irqLine = (takeInput s).irqLine := by
  obtain ⟨-, hm, hp, -⟩ := takeInput_frame s
  refine ⟨_, step_of_done (boundary_of_reset h), resets_congr hm hp (resetSequence_resets _), ?_, ?_⟩
  · simpa [resetSequence] using h
  · simp [resetSequence]

end Sys2Proof.Machine

namespace Sys2Proof

open Sys2Proof.Machine

/-- Settles O12: `step_of_resetLine`, from `resetSequence_resets`. -/
theorem resetLineResets : Obligations.ResetLineResets := by
  unfold Obligations.ResetLineResets
  exact fun _ => step_of_resetLine

/-- Settles O6: the boundary leads to the fetch, which reads the bytes that decode to `i` (`step_of_decode`). -/
theorem stepRunsDecodedInstruction : Obligations.StepRunsDecodedInstruction := by
  unfold Obligations.StepRunsDecodedInstruction
  intro s n
  refine ⟨?_, ?_, fun i hu hm hd => ?_⟩
  · simp only [State.codeBytes, codeAddr_eq]
  · simp only [codeInMemory_iff, codeAddr_eq]
  · simp only [State.undisturbed, Bool.and_eq_true, List.isEmpty_iff, Bool.not_eq_true', decide_eq_true_eq] at hu
    obtain ⟨⟨⟨⟨hin, hr⟩, hrun⟩, hn⟩, hq⟩ := hu
    have hb := boundary_of_execute hr (by simp [hrun]) hn (fun _ => hrun) (by simpa using hq)
    rw [← hrun, ← takeInput_of_nil hin] at hb
    simpa only [takeInput_of_nil hin] using step_of_decode (t := takeInput s) hb
      (by rwa [takeInput_of_nil hin]) (by rwa [takeInput_of_nil hin])

/-- Settles O33: `boundary_of_stopped` without RESET, `step_of_resetLine` with it. -/
theorem stopUntilReset : Obligations.StopUntilReset := by
  unfold Obligations.StopUntilReset
  refine ⟨fun m x => encode_of_operands_none rfl m x, fun s => ⟨rfl, fun hrun hr => ?_, fun _ hr => ?_⟩⟩
  · obtain ⟨-, -, -, hsame, -⟩ := takeInput_frame s
    exact step_of_done (boundary_of_stopped hr (hsame.trans hrun))
  · obtain ⟨t, ht, hreset, -⟩ := step_of_resetLine hr
    exact ⟨t, ht, hreset⟩

/-- Settles O34: a waiting processor goes on waiting (`boundary_of_waiting`) or is woken to fetch
(`boundary_of_execute`). -/
theorem waitForInterrupt : Obligations.WaitForInterrupt := by
  unfold Obligations.WaitForInterrupt
  refine fun s => ⟨rfl, fun hw hin hr hn => ⟨fun hq => ?_, fun hq hi n i hm hd => ?_⟩⟩
  all_goals have hs : s.run ≠ .stopped := by simp [hw]
  · exact step_of_done ((congrArg boundary (takeInput_of_nil hin)).trans (boundary_of_waiting hr hn hq hw))
  · have hb := boundary_of_execute hr hs hn (by simp [hq]) (fun _ => hi)
    rw [← takeInput_of_nil hin] at hb
    exact step_of_decode (t := { s with run := .running }) (by rwa [takeInput_of_nil hin] at hb ⊢) hm hd

end Sys2Proof
end

section
/-! PROOFS. Values: the words of the statements (`Spec`) are the model's own, and arithmetic at a width as numbers. -/

namespace Sys2Proof.Machine

open Sys2Proof.Spec

/-! ### The statements' words for a width are the model's -/

theorem bits_ofFlag (f : Bool) : (Width.ofFlag f).bits = bits f := by cases f <;> rfl

theorem low_eq (f : Bool) (v : Word) : low f v = (Width.ofFlag f).trunc v := by cases f <;> rfl

theorem mix_eq (f : Bool) (old v : Word) : mix f old v = withLow (Width.ofFlag f) old v := by cases f <;> rfl

theorem wrap_eq (f : Bool) (n : Nat) : wrap f n = (Width.ofFlag f).reduce n := by cases f <;> rfl

theorem nz_eq (f : Bool) (v : Word) (p : Status) : nz f v p = p.setNZ (Width.ofFlag f) v := by
  simp only [nz, Status.setNZ, Width.msb, Width.trunc_eq_zero, bits_ofFlag]

theorem acc_eq (r : Regs) : Spec.acc r = r.acc := low_eq r.p.m r.c

/-- The top bit of a value is that of its low part. -/
theorem msb_trunc (w : Width) (v : Word) : w.msb (w.trunc v) = w.msb v := by
  cases w
  · simp only [Width.msb, Width.bits, Width.trunc, word, BitVec.getLsbD_append]
    simp [lo]
  · rfl

/-- N and Z of a value are those of its low part. -/
theorem setNZ_trunc (w : Width) (v : Word) (p : Status) : p.setNZ w (w.trunc v) = p.setNZ w v := by
  simp only [Status.setNZ, msb_trunc, Width.trunc_trunc]

theorem reduce_eq_trunc (w : Width) (v : Word) : w.reduce v.toNat = w.trunc v := by
  apply BitVec.eq_of_toNat_eq
  rw [Width.reduce_toNat, Width.trunc_toNat]

/-! ### The top bit and the sign of a value of the width -/

theorem msb_iff {w : Width} {v : Word} (h : v.toNat < 2 ^ w.bits) : w.msb v = decide (2 ^ (w.bits - 1) ≤ v.toNat) := by
  cases w <;> simp only [Width.msb, Width.bits, BitVec.getLsbD, Nat.testBit_eq_decide_div_mod_eq] at h ⊢ <;>
    congr 1 <;> apply propext <;> omega

/-- A value of the width as two's complement (R10). -/
theorem signed_eq {f : Bool} {v : Word} (h : v.toNat < 2 ^ bits f) :
    signed f v = if 2 ^ (bits f - 1) ≤ v.toNat then (v.toNat : Int) - 2 ^ bits f else v.toNat := by
  cases f
  · simp only [signed, bits, BitVec.toInt_eq_toNat_cond] at h ⊢
    split <;> split <;> simp_all <;> omega
  · simp only [signed, bits, BitVec.toInt_eq_toNat_cond, lo_toNat] at h ⊢
    simp only [if_true] at h ⊢
    rw [Nat.mod_eq_of_lt (by simpa using h)]
    split <;> split <;> simp_all <;> omega

/-- V of an addition: the operands have one sign and the sum the other, exactly when the signed sum does not fit (R31,
R161). -/
theorem addBinary_overflow {f : Bool} {a m : Word} (ha : a.toNat < 2 ^ bits f) (hm : m.toNat < 2 ^ bits f) (c : Bool) :
    (addBinary (Width.ofFlag f) a m c).overflow = outOfRange f (signed f a + signed f m + c.toNat) := by
  have hc := Bool.toNat_lt c
  rw [signed_eq ha, signed_eq hm]
  have hr := Nat.mod_lt (a.toNat + m.toNat + c.toNat) (show 0 < 2 ^ bits f by positivity)
  simp only [addBinary]
  rw [msb_iff (by rwa [bits_ofFlag]), msb_iff (by rwa [bits_ofFlag]),
    msb_iff (by rw [Width.reduce_toNat]; exact Nat.mod_lt _ (by positivity)), Width.reduce_toNat, bits_ofFlag]
  rw [Bool.eq_iff_iff]
  simp only [outOfRange, Bool.and_eq_true, beq_iff_eq, bne_iff_ne, ne_eq, decide_eq_decide, Bool.or_eq_true,
    decide_eq_true_eq]
  cases f <;> simp only [bits] at * <;> simp at * <;> split <;> split <;> omega

/-- The same of a subtraction `a - m - (1 - c)` (R167). -/
theorem subBinary_overflow {f : Bool} {a m : Word} (ha : a.toNat < 2 ^ bits f) (hm : m.toNat < 2 ^ bits f) (c : Bool) :
    (subBinary (Width.ofFlag f) a m c).overflow = outOfRange f (signed f a - signed f m - (!c).toNat) := by
  have hc : (!c).toNat = 1 - c.toNat ∧ c.toNat ≤ 1 := by cases c <;> decide
  rw [signed_eq ha, signed_eq hm]
  have hr := Nat.mod_lt (a.toNat + (2 ^ bits f - 1 - m.toNat) + c.toNat) (show 0 < 2 ^ bits f by positivity)
  simp only [subBinary]
  rw [msb_iff (by rwa [bits_ofFlag]), msb_iff (by rwa [bits_ofFlag]),
    msb_iff (by rw [Width.reduce_toNat]; exact Nat.mod_lt _ (by positivity)), Width.reduce_toNat, bits_ofFlag]
  rw [Bool.eq_iff_iff]
  simp only [outOfRange, Bool.and_eq_true, bne_iff_ne, ne_eq, decide_eq_decide, Bool.or_eq_true,
    decide_eq_true_eq]
  cases f <;> simp only [bits] at * <;> simp at * <;> split <;> split <;> omega

/-- The carry of a subtraction: no borrow (R167). -/
theorem subBinary_carry {f : Bool} {a m : Word} (hm : m.toNat < 2 ^ bits f) (c : Bool) :
    (subBinary (Width.ofFlag f) a m c).carry = decide (m.toNat + (!c).toNat ≤ a.toNat) := by
  simp only [subBinary, bits_ofFlag, decide_eq_decide]
  cases c <;> simp <;> omega

/-- The difference, reduced to the width (R167). -/
theorem subBinary_value {f : Bool} {a m : Word} (hm : m.toNat < 2 ^ bits f) (c : Bool) :
    (subBinary (Width.ofFlag f) a m c).value = wrap f (a.toNat + 2 ^ bits f - m.toNat - (!c).toNat) := by
  simp only [subBinary, bits_ofFlag, wrap_eq]
  congr 1
  cases c <;> simp <;> omega

end Sys2Proof.Machine
end

section
/-! PROOFS. The instructions whose operand is read: what their meanings leave of the state, by the rule of
`withAccOperand`, `withIndexOperand`, and of the stores and read-modify-writes. -/

namespace Sys2Proof.Machine

open Sys2Proof.Spec

/-! ### Completing -/

theorem completes_of_eq {i : Instr} {s : State} {r r' : Regs} (h : completes i s r) (e : r = r') : completes i s r' :=
  e ▸ h

/-- An instruction that only reads, and then changes the registers, completes. -/
theorem completes_of_onRegs {i : Instr} {s u : State} {f : Regs → Regs} (he : exec i s = .next (u.onRegs f))
    (hu : ∃ n l, u = { s with draws := n, deviceLog := l }) : completes i s (f s.regs) := by
  obtain ⟨n, l, rfl⟩ := hu
  exact ⟨n, l, he⟩

theorem nextPC_of_dataOperand {i : Instr} {o : Operand} (ho : i.dataOperand = some o) (r : Regs) :
    nextPC i r = r.pc + BitVec.ofNat 16 (operandLen (operandWidth i.mnemonic r) o) := by
  rw [nextPC, length_of_dataOperand ho]

/-- An instruction that reads its operand at the accumulator's width and changes the registers by `g`. -/
theorem completes_withAccOperand {i : Instr} {o : Operand} {s : State} (ho : i.dataOperand = some o)
    (hw : operandWidth i.mnemonic s.regs = s.regs.wA) (g : Width → Word → Regs → Regs)
    (he : operandMeaning i.mnemonic o s = withAccOperand (fun w m t => t.onRegs (g w m)) o s)
    (hg : ∀ w m r, (g w m r).pc = r.pc := by intros; rfl) :
    completes i s { g s.regs.wA (loadOperand o s.regs.wA s).1 s.regs with pc := nextPC i s.regs } := by
  refine completes_of_eq (completes_of_onRegs (u := (loadOperand o s.regs.wA s).2)
    (f := fun r => (g s.regs.wA (loadOperand o s.regs.wA s).1 r).advance (operandLen s.regs.wA o))
    ((exec_of_dataOperand ho s).trans (congrArg _ he)) (loadOperand_frame _ _ _)) ?_
  rw [nextPC_of_dataOperand ho, hw, Regs.advance, hg]

/-- The same at the index width. -/
theorem completes_withIndexOperand {i : Instr} {o : Operand} {s : State} (ho : i.dataOperand = some o)
    (hw : operandWidth i.mnemonic s.regs = s.regs.wX) (g : Width → Word → Regs → Regs)
    (he : operandMeaning i.mnemonic o s = withIndexOperand g o s)
    (hg : ∀ w m r, (g w m r).pc = r.pc := by intros; rfl) :
    completes i s { g s.regs.wX (loadOperand o s.regs.wX s).1 s.regs with pc := nextPC i s.regs } := by
  refine completes_of_eq (completes_of_onRegs (u := (loadOperand o s.regs.wX s).2)
    (f := fun r => (g s.regs.wX (loadOperand o s.regs.wX s).1 r).advance (operandLen s.regs.wX o))
    ((exec_of_dataOperand ho s).trans (congrArg _ he)) (loadOperand_frame _ _ _)) ?_
  rw [nextPC_of_dataOperand ho, hw, Regs.advance, hg]

/-- Where the result goes to the accumulator with its N and Z (R162, R164 to R166). -/
theorem completes_resultAcc {i : Instr} {o : Operand} {s : State} (ho : i.dataOperand = some o)
    (hw : operandWidth i.mnemonic s.regs = s.regs.wA) (v : Word → Regs → Word)
    (he : operandMeaning i.mnemonic o s = withAccOperand (fun _ m t => t.onRegs fun g => g.resultAcc (v m g)) o s) :
    completes i s { s.regs with
      c := mix s.regs.p.m s.regs.c (v (loadOperand o s.regs.wA s).1 s.regs)
      p := nz s.regs.p.m (v (loadOperand o s.regs.wA s).1 s.regs) s.regs.p, pc := nextPC i s.regs } := by
  refine completes_of_eq (completes_withAccOperand ho hw (fun _ m g => g.resultAcc (v m g)) he) ?_
  rw [mix_eq, nz_eq]
  rfl

/-- An instruction of a mnemonic of groups 1 to 3 with no accumulator form has a data operand. -/
theorem exists_dataOperand {i : Instr} {ks : List Mnemonic} (h : i.mnemonic ∈ ks)
    (hks : ks ⊆ [.adc, .and, .cmp, .eor, .lda, .ora, .sbc, .sta, .bit, .trb, .tsb, .ldx, .ldy, .cpx, .cpy, .stx, .sty,
      .stz] := by decide) : ∃ o, i.dataOperand = some o :=
  dataOperand_isSome (hks h)

/-! ### Addition, subtraction, comparison -/

/-- A sum or difference in the accumulator (R161, R167). -/
theorem setSum_eq (r : Regs) (q : Sum) (pc : Word) : { r.setSum r.wA q with pc := pc } = { r with
    c := mix r.p.m r.c q.value, p := { nz r.p.m q.value r.p with c := q.carry, v := q.overflow }, pc := pc } := by
  rw [mix_eq, nz_eq]
  rfl

theorem adcOp_of_binary {s : State} (o : Operand) (hd : s.regs.p.d = false) :
    adcOp o s =
      withAccOperand (fun w m t => t.onRegs fun g => g.setSum w (addBinary w s.regs.acc m s.regs.p.c)) o s := by
  simp only [adcOp, withAccOperand, addToAcc, loadOperand_regs, hd, Bool.false_eq_true, if_false]

theorem sbcOp_of_binary {s : State} (o : Operand) (hd : s.regs.p.d = false) :
    sbcOp o s =
      withAccOperand (fun w m t => t.onRegs fun g => g.setSum w (subBinary w s.regs.acc m s.regs.p.c)) o s := by
  simp only [sbcOp, withAccOperand, subFromAcc, loadOperand_regs, hd, Bool.false_eq_true, if_false]

theorem operand_lt (o : Operand) (f : Bool) (s : State) :
    (loadOperand o (Width.ofFlag f) s).1.toNat < 2 ^ bits f := by
  rw [← bits_ofFlag]
  exact loadOperand_lt _ _ _

theorem acc_lt (r : Regs) : (Spec.acc r).toNat < 2 ^ bits r.p.m := by
  rw [acc_eq, ← bits_ofFlag]
  exact r.acc_lt

theorem addBinary_eq {f : Bool} {a m : Word} (ha : a.toNat < 2 ^ bits f) (hm : m.toNat < 2 ^ bits f) (c : Bool) :
    addBinary (Width.ofFlag f) a m c =
      { value := wrap f (a.toNat + m.toNat + c.toNat), carry := decide (2 ^ bits f ≤ a.toNat + m.toNat + c.toNat)
        overflow := outOfRange f (signed f a + signed f m + c.toNat) } := by
  rw [← addBinary_overflow ha hm, wrap_eq]
  simp only [addBinary, bits_ofFlag]

theorem subBinary_eq {f : Bool} {a m : Word} (ha : a.toNat < 2 ^ bits f) (hm : m.toNat < 2 ^ bits f) (c : Bool) :
    subBinary (Width.ofFlag f) a m c =
      { value := wrap f (a.toNat + 2 ^ bits f - m.toNat - (!c).toNat), carry := decide (m.toNat + (!c).toNat ≤ a.toNat)
        overflow := outOfRange f (signed f a - signed f m - (!c).toNat) } := by
  rw [← subBinary_overflow ha hm, ← subBinary_value hm, ← subBinary_carry hm]

/-- The flags of a comparison (R163, R203, R204). -/
theorem compare_eq (f : Bool) (a m : Word) (p : Status) : p.compare (Width.ofFlag f) a m =
    { nz f (wrap f (a.toNat + 2 ^ bits f - m.toNat)) p with c := decide (m.toNat ≤ a.toNat) } := by
  rw [nz_eq, wrap_eq, Status.compare, subMod, bits_ofFlag]

/-! ### Decimal arithmetic: V free, or everything free (R169) -/

/-- What decimal ADC and SBC on valid operands leave: one draw, for V. -/
theorem decimalResult_advance {s t : State} {n : Nat} {l : List DeviceAccess}
    (ht : t = { s with draws := n, deviceLog := l }) (q : Word × Bool) (len : Nat) :
    (decimalResult s.regs.wA q t).onRegs (Regs.advance len) = { s with
      regs := { s.regs with
        c := mix s.regs.p.m s.regs.c q.1
        p := { nz s.regs.p.m q.1 s.regs.p with v := Config.freeBit n, c := q.2 }
        pc := s.regs.pc + BitVec.ofNat 16 len }
      draws := n + 1, deviceLog := l } := by
  subst ht
  rw [mix_eq, nz_eq]
  rfl

/-- What they leave on operands that are not BCD: five draws. -/
theorem decimalInvalid_advance {s t : State} {n : Nat} {l : List DeviceAccess}
    (ht : t = { s with draws := n, deviceLog := l }) (len : Nat) :
    (decimalInvalid t).onRegs (Regs.advance len) = { s with
      regs := { s.regs with
        c := mix s.regs.p.m s.regs.c (Config.freeWord n)
        p := { s.regs.p with
          n := Config.freeBit (n + 1), v := Config.freeBit (n + 2), z := Config.freeBit (n + 3)
          c := Config.freeBit (n + 4) }
        pc := s.regs.pc + BitVec.ofNat 16 len }
      draws := n + 5, deviceLog := l } := by
  subst ht
  simp only [decimalInvalid, drawWord, drawBit, State.countDraw, State.onRegs, Regs.setAcc, Regs.advance, mix_eq]
  rfl

/-! ### Decimal digits -/

theorem bcdEncode_lt (k n : Nat) : bcdEncode k n < 16 ^ k := by
  induction k generalizing n with
  | zero => simp [bcdEncode]
  | succ k ih =>
    have := ih (n / 10)
    simp only [bcdEncode, pow_succ]
    omega

theorem bcdValid_bcdEncode (k n : Nat) : bcdValid k (bcdEncode k n) = true := by
  induction k generalizing n with
  | zero => rfl
  | succ k ih =>
    have h1 : (n % 10 + 16 * bcdEncode k (n / 10)) / 16 = bcdEncode k (n / 10) := by omega
    have h2 : (n % 10 + 16 * bcdEncode k (n / 10)) % 16 ≤ 9 := by omega
    simp only [bcdEncode, bcdValid, h1, h2, ih, decide_true, Bool.and_true]

theorem bcdDecode_bcdEncode (k n : Nat) : bcdDecode k (bcdEncode k n) = n % 10 ^ k := by
  induction k generalizing n with
  | zero => simp [bcdDecode, Nat.mod_one]
  | succ k ih =>
    have h1 : (n % 10 + 16 * bcdEncode k (n / 10)) / 16 = bcdEncode k (n / 10) := by omega
    have h2 : (n % 10 + 16 * bcdEncode k (n / 10)) % 16 = n % 10 := by omega
    rw [bcdEncode, bcdDecode, h1, h2, ih, pow_succ', Nat.mod_mul]

theorem digits_ofFlag (f : Bool) : (Width.ofFlag f).digits = bits f / 4 := by cases f <;> rfl

theorem bcdValid_eq (f : Bool) (v : Word) : bcdValid (Width.ofFlag f).digits v.toNat = isBcd f v := by
  cases f
  · simp [Width.ofFlag, Width.digits, bcdValid, isBcd, bits, digit, List.range_succ, Nat.div_div_eq_div_mul]
    rfl
  · simp [Width.ofFlag, Width.digits, bcdValid, isBcd, bits, digit, List.range_succ]

theorem bcdDecode_eq (f : Bool) (v : Word) : bcdDecode (Width.ofFlag f).digits v.toNat = decimal f v := by
  cases f
  · simp [Width.ofFlag, Width.digits, bcdDecode, decimal, digit, Nat.div_div_eq_div_mul]
    omega
  · simp [Width.ofFlag, Width.digits, bcdDecode, decimal, digit]

theorem sixteen_pow_digits (f : Bool) : 16 ^ (Width.ofFlag f).digits = 2 ^ bits f := by cases f <;> rfl

/-- The word of a BCD encoding: of the width, valid, and spelling the number (R169). -/
theorem bcdEncode_spec (f : Bool) {n : Nat} (h : n < 10 ^ (bits f / 4)) :
    let v : Word := BitVec.ofNat 16 (bcdEncode (Width.ofFlag f).digits n)
    v.toNat < 2 ^ bits f ∧ isBcd f v = true ∧ decimal f v = n := by
  have hlt := bcdEncode_lt (Width.ofFlag f).digits n
  rw [sixteen_pow_digits] at hlt
  have hv : (BitVec.ofNat 16 (bcdEncode (Width.ofFlag f).digits n)).toNat = bcdEncode (Width.ofFlag f).digits n := by
    rw [BitVec.toNat_ofNat, Nat.mod_eq_of_lt]
    exact hlt.trans_le (by cases f <;> decide)
  refine ⟨by rwa [hv], ?_, ?_⟩
  · rw [← bcdValid_eq, hv, bcdValid_bcdEncode]
  · rw [← bcdDecode_eq, hv, bcdDecode_bcdEncode, digits_ofFlag, Nat.mod_eq_of_lt h]

theorem decimalOperands_eq (f : Bool) (a m : Word) :
    decimalOperands (Width.ofFlag f) a m = (isBcd f a && isBcd f m) := by
  simp only [decimalOperands, bcdValid_eq]

/-- The decimal sum modulo 10^k, and its carry. -/
theorem addDecimal_spec (f : Bool) (a m : Word) (c : Bool) :
    let total : Int := decimal f a + decimal f m + c.toNat
    let k : Nat := 10 ^ (bits f / 4)
    let q := addDecimal (Width.ofFlag f) a m c
    q.1.toNat < 2 ^ bits f ∧ isBcd f q.1 = true ∧ (decimal f q.1 : Int) = total % (k : Int) ∧
      q.2 = decide ((k : Int) ≤ total) := by
  have hs := bcdEncode_spec f (Nat.mod_lt (decimal f a + decimal f m + c.toNat)
    (show 0 < 10 ^ (bits f / 4) by positivity))
  simp only [addDecimal, bcdDecode_eq]
  rw [digits_ofFlag] at hs ⊢
  obtain ⟨h1, h2, h3⟩ := hs
  refine ⟨h1, h2, ?_, ?_⟩
  · rw [h3]; push_cast; rfl
  · rw [decide_eq_decide]; norm_cast

/-- The decimal difference modulo 10^k, and its carry: no borrow. -/
theorem subDecimal_spec (f : Bool) (a m : Word) (c : Bool) :
    let total : Int := decimal f a - decimal f m - (!c).toNat
    let k : Nat := 10 ^ (bits f / 4)
    let q := subDecimal (Width.ofFlag f) a m c
    q.1.toNat < 2 ^ bits f ∧ isBcd f q.1 = true ∧ (decimal f q.1 : Int) = total % (k : Int) ∧
      q.2 = decide (0 ≤ total) := by
  have hk : (0 : Int) < ((10 ^ (bits f / 4) : Nat) : Int) := by positivity
  have h0 := Int.emod_nonneg ((decimal f a : Int) - decimal f m - (!c).toNat) hk.ne'
  have h1 := Int.emod_lt_of_pos ((decimal f a : Int) - decimal f m - (!c).toNat) hk
  have hs := bcdEncode_spec f (n := (((decimal f a : Int) - decimal f m - (!c).toNat) %
    ((10 ^ (bits f / 4) : Nat) : Int)).toNat) (by omega)
  simp only [subDecimal, bcdDecode_eq]
  rw [digits_ofFlag] at hs ⊢
  obtain ⟨h2, h3, h4⟩ := hs
  refine ⟨h2, h3, ?_, trivial⟩
  rw [h4, Int.toNat_of_nonneg h0]

end Sys2Proof.Machine

namespace Sys2Proof

open Sys2Proof.Machine Sys2Proof.Spec

/-- Settles O13: each of the four is `completes_resultAcc` of its combination. -/
theorem loadAndLogicalOperations : Obligations.LoadAndLogicalOperations := by
  unfold Obligations.LoadAndLogicalOperations
  intro i s hk
  obtain ⟨o, ho⟩ := exists_dataOperand hk
  refine ⟨o, ho, ?_⟩
  simp only [List.mem_cons, List.not_mem_nil, or_false] at hk
  obtain hk | hk | hk | hk := hk <;> simp only [hk, reduceCtorEq, if_true, if_false, acc_eq]
  · exact completes_resultAcc ho (by rw [hk]; rfl) (fun m _ => m) (by rw [hk]; rfl)
  · exact completes_resultAcc ho (by rw [hk]; rfl) (fun m g => g.acc &&& m) (by rw [hk]; rfl)
  · exact completes_resultAcc ho (by rw [hk]; rfl) (fun m g => g.acc ^^^ m) (by rw [hk]; rfl)
  · exact completes_resultAcc ho (by rw [hk]; rfl) (fun m g => g.acc ||| m) (by rw [hk]; rfl)

/-- Settles O14: `addBinary` is the sum of the statement (`addBinary_eq`), put in the accumulator (`setSum_eq`). -/
theorem binaryAddition : Obligations.BinaryAddition := by
  unfold Obligations.BinaryAddition
  intro i s hk hd
  obtain ⟨o, ho⟩ := exists_dataOperand (List.mem_singleton.mpr hk)
  refine ⟨o, ho, ?_⟩
  refine completes_of_eq (completes_withAccOperand ho (by rw [hk]; rfl)
    (fun w m g => g.setSum w (addBinary w s.regs.acc m s.regs.p.c)) (by rw [hk]; exact adcOp_of_binary o hd)) ?_
  rw [setSum_eq, ← acc_eq]
  exact congrArg (fun q : Sum => { s.regs with
    c := mix s.regs.p.m s.regs.c q.value
    p := { nz s.regs.p.m q.value s.regs.p with c := q.carry, v := q.overflow }, pc := nextPC i s.regs })
    (addBinary_eq (acc_lt s.regs) (operand_lt o s.regs.p.m s) s.regs.p.c)

/-- Settles O15: `subBinary` is the difference of the statement (`subBinary_eq`), put in the accumulator. -/
theorem binarySubtraction : Obligations.BinarySubtraction := by
  unfold Obligations.BinarySubtraction
  intro i s hk hd
  obtain ⟨o, ho⟩ := exists_dataOperand (List.mem_singleton.mpr hk)
  refine ⟨o, ho, ?_⟩
  refine completes_of_eq (completes_withAccOperand ho (by rw [hk]; rfl)
    (fun w m g => g.setSum w (subBinary w s.regs.acc m s.regs.p.c)) (by rw [hk]; exact sbcOp_of_binary o hd)) ?_
  rw [setSum_eq, ← acc_eq]
  exact congrArg (fun q : Sum => { s.regs with
    c := mix s.regs.p.m s.regs.c q.value
    p := { nz s.regs.p.m q.value s.regs.p with c := q.carry, v := q.overflow }, pc := nextPC i s.regs })
    (subBinary_eq (acc_lt s.regs) (operand_lt o s.regs.p.m s) s.regs.p.c)

end Sys2Proof
end

section
/-! PROOFS. Decimal arithmetic, comparisons, BIT, the loads of X and Y, and the instructions that store: STA STX STY
STZ, the read-modify-writes. -/

namespace Sys2Proof.Machine

open Sys2Proof.Spec

/-! ### Decimal ADC and SBC: the branch taken (R169) -/

/-- The decimal sum or difference by mnemonic. -/
def decimalOf (k : Mnemonic) (w : Width) (a m : Word) (c : Bool) : Word × Bool :=
  if k = .adc then addDecimal w a m c else subDecimal w a m c

/-- Decimal ADC and SBC go one way on valid operands and another on all others. -/
theorem exec_decimal {i : Instr} {o : Operand} {s : State} (hk : i.mnemonic ∈ [.adc, .sbc])
    (ho : i.dataOperand = some o) (hd : s.regs.p.d = true) :
    exec i s = .next ((if decimalOperands s.regs.wA s.regs.acc (loadOperand o s.regs.wA s).1 then
        decimalResult s.regs.wA (decimalOf i.mnemonic s.regs.wA s.regs.acc (loadOperand o s.regs.wA s).1 s.regs.p.c)
          (loadOperand o s.regs.wA s).2
      else decimalInvalid (loadOperand o s.regs.wA s).2).onRegs (Regs.advance (operandLen s.regs.wA o))) := by
  rw [exec_of_dataOperand ho]
  simp only [List.mem_cons, List.not_mem_nil, or_false] at hk
  obtain hk | hk := hk
  · simp only [hk, operandMeaning, adcOp, withAccOperand, addToAcc, loadOperand_regs, hd, if_true, decimalOf]
  · simp only [hk, operandMeaning, sbcOp, withAccOperand, subFromAcc, loadOperand_regs, hd, if_true, decimalOf,
      reduceCtorEq, if_false]

theorem operandWidth_of_decimal {i : Instr} (hk : i.mnemonic ∈ [.adc, .sbc]) (r : Regs) :
    operandWidth i.mnemonic r = r.wA := by
  simp only [List.mem_cons, List.not_mem_nil, or_false] at hk
  obtain hk | hk := hk <;> rw [hk] <;> rfl

/-- Result and carry of the two, in numbers. -/
theorem decimalOf_spec {k : Mnemonic} (hk : k ∈ [.adc, .sbc]) (f : Bool) (a m : Word) (c : Bool) :
    let n : Nat := 10 ^ (bits f / 4)
    let total : Int := if k = .adc then decimal f a + decimal f m + c.toNat
      else decimal f a - decimal f m - (!c).toNat
    let q := decimalOf k (Width.ofFlag f) a m c
    q.1.toNat < 2 ^ bits f ∧ isBcd f q.1 = true ∧ (decimal f q.1 : Int) = total % (n : Int) ∧
      q.2 = if k = .adc then decide ((n : Int) ≤ total) else decide (0 ≤ total) := by
  simp only [List.mem_cons, List.not_mem_nil, or_false] at hk
  obtain rfl | rfl := hk
  · exact addDecimal_spec f a m c
  · exact subDecimal_spec f a m c

/-! ### The immediate form, by the operand -/

theorem mode_eq_immediate_iff {i : Instr} {o : Operand} (h : i.dataOperand = some o) :
    i.mode = .immediate ↔ ∃ v, o = .imm v := by
  cases i <;> cases h <;> simp [Instr.mode, Instr.coding]

/-! ### Stores -/

/-- An instruction that ends in a store to memory and a change of the registers. -/
theorem completesStoring_of {i : Instr} {s u : State} {r : Regs} {g : Regs → Regs} {f : Addr → Byte}
    (he : exec i s = .next (u.onRegs g)) (hr : g u.regs = r) (ho : sameOutside s u) (hf : ∀ a, u.byteAt a = f a) :
    completesStoring i s r f :=
  ⟨_, he, hr, ho, hf⟩

theorem wf_of_mem {s u : State} (h : s.mem.wf = true) (hm : u.mem = s.mem) : u.mem.wf = true := hm ▸ h

theorem byteAt_congr {s u : State} (hm : u.mem = s.mem) (a : Addr) : u.byteAt a = s.byteAt a := by
  simp [State.byteAt, hm]

/-- The bytes after a store, in the words of the statements, the reads before it aside. -/
theorem stored_eq (ea : EA) (f : Bool) (v : Word) {s u : State} (hm : u.mem = s.mem) (hp : u.params = s.params)
    (a : Addr) :
    (if u.kindAt a = .ram ∧ a = ea.byteAddr 0 then lo v
      else if u.kindAt a = .ram ∧ Width.ofFlag f = .w16 ∧ a = ea.byteAddr 1 then hi v else u.byteAt a) =
      stored ea f v s a := by
  rw [byteAt_congr hm, kindAt_congr hp, stored]
  by_cases hk : s.kindAt a = .ram
  · cases f <;> simp [hk, Width.ofFlag]
  · simp [hk]

theorem storeEA_stored (ea : EA) (f : Bool) (v : Word) {s u : State} (hwf : s.mem.wf = true) (hm : u.mem = s.mem)
    (hp : u.params = s.params) (a : Addr) : (storeEA ea (Width.ofFlag f) v u).byteAt a = stored ea f v s a := by
  rw [storeEA_byteAt _ _ _ (wf_of_mem hwf hm), stored_eq ea f v hm hp]

theorem storeBackEA_stored (ea : EA) (f : Bool) (v : Word) {s u : State} (hwf : s.mem.wf = true) (hm : u.mem = s.mem)
    (hp : u.params = s.params) (a : Addr) : (storeBackEA ea (Width.ofFlag f) v u).byteAt a = stored ea f v s a := by
  rw [storeBackEA_byteAt _ _ _ (wf_of_mem hwf hm), stored_eq ea f v hm hp]

/-- STA, STX, STY, STZ: the store, then the next instruction. -/
theorem completesStoring_storeMem {i : Instr} {md : MemMode} {s : State} (hwf : s.mem.wf = true)
    (ho : i.dataOperand = some (.mem md)) (f : Bool) (v : Word)
    (he : operandMeaning i.mnemonic (.mem md) s =
      (storeMem md (Width.ofFlag f) v s).onRegs (Regs.advance (memLen md))) :
    completesStoring i s { s.regs with pc := nextPC i s.regs } (stored (effAddr md s).1 f v s) := by
  refine completesStoring_of ((exec_of_dataOperand ho s).trans (congrArg _ he)) ?_ (by simp [sameOutside])
    (storeEA_stored _ f v hwf (by simp) (by simp))
  rw [nextPC_of_dataOperand ho, storeMem_regs]
  rfl

/-- The read-modify-writes: the operand is read, a value goes back to its address, the registers change. -/
theorem completesStoring_storeBack {i : Instr} {md : MemMode} {s : State} {g : Regs → Regs} (hwf : s.mem.wf = true)
    (ho : i.dataOperand = some (.mem md)) (v : Word) (hg : ∀ r, (g r).pc = r.pc)
    (he : operandMeaning i.mnemonic (.mem md) s = (storeBackEA (effAddr md s).1 s.regs.wA v
      (loadMem md s.regs.wA s).2).onRegs fun r => (g r).advance (memLen md)) :
    completesStoring i s { g s.regs with pc := nextPC i s.regs } (stored (effAddr md s).1 s.regs.p.m v s) := by
  refine completesStoring_of ((exec_of_dataOperand ho s).trans (congrArg _ he)) ?_ (by simp [sameOutside])
    (storeBackEA_stored _ s.regs.p.m v hwf (by simp) (by simp))
  rw [nextPC_of_dataOperand ho]
  simp only [storeBackEA_regs, loadMem_regs, Regs.advance, hg]
  rfl

/-- A mnemonic of stores and of TRB, TSB has its operand in memory. -/
theorem exists_memOperand {i : Instr} (h : i.mnemonic ∈ [.sta, .stx, .sty, .stz, .trb, .tsb]) :
    ∃ md, i.dataOperand = some (.mem md) := by
  obtain ⟨o, ho⟩ := exists_dataOperand h
  cases o with
  | mem md => exact ⟨md, ho⟩
  | imm v =>
    exfalso
    revert h
    cases i <;> cases ho <;> simp [Instr.mnemonic, Instr.coding]

/-! ### Shifts and counts in numbers -/

/-- A result at the width and a carry, from a number that fits it. -/
theorem reduce_prod {f : Bool} {n n' : Nat} {c c' : Bool} (h : n % 2 ^ bits f = n') (hc : c = c') :
    ((Width.ofFlag f).reduce n, c) = (BitVec.ofNat 16 n', c') := by
  rw [Width.reduce, bits_ofFlag, h, hc]

theorem getLsbD_zero_eq (v : Word) : v.getLsbD 0 = decide (v.toNat % 2 = 1) := by
  simp [BitVec.getLsbD, Nat.testBit_eq_decide_div_mod_eq]

/-- What a shift or count function computes is what the statements' `modified` says of its mnemonic. -/
def Modifies (k : Mnemonic) (F : Width → Word → Bool → Word × Bool) : Prop :=
  ∀ {f : Bool} {v : Word}, v.toNat < 2 ^ bits f → ∀ c,
    F (Width.ofFlag f) v c = (BitVec.ofNat 16 (modified k (bits f) v.toNat c).1, (modified k (bits f) v.toNat c).2)

theorem modifies_ror : Modifies .ror rorResult := by
  intro f v h c
  simp only [rorResult, modified, bits_ofFlag]
  refine reduce_prod (Nat.mod_eq_of_lt ?_) (getLsbD_zero_eq v)
  have := Bool.toNat_lt c
  cases f <;> simp only [bits] at * <;> simp at * <;> omega

theorem modifies_asl : Modifies .asl aslResult := by
  intro f v h c
  simp only [aslResult, modified]
  exact reduce_prod rfl ((msb_iff (by rwa [bits_ofFlag])).trans (by rw [bits_ofFlag]))

theorem modifies_lsr : Modifies .lsr lsrResult := by
  intro f v h c
  simp only [lsrResult, modified]
  exact reduce_prod (Nat.mod_eq_of_lt (by omega)) (getLsbD_zero_eq v)

theorem modifies_rol : Modifies .rol rolResult := by
  intro f v h c
  simp only [rolResult, modified]
  exact reduce_prod rfl ((msb_iff (by rwa [bits_ofFlag])).trans (by rw [bits_ofFlag]))

theorem modifies_inc : Modifies .inc incResult := fun _ _ => reduce_prod rfl rfl

theorem modifies_dec : Modifies .dec decResult := by
  intro f v h c
  simp only [decResult, modified, bits_ofFlag, Nat.add_sub_assoc Nat.one_le_two_pow]
  exact reduce_prod rfl rfl

/-- A shift or count of the accumulator, in numbers (R180, R22). -/
theorem modifyAcc_eq {k : Mnemonic} {F : Width → Word → Bool → Word × Bool} (hF : Modifies k F) (s : State) :
    modifyAcc F s =
      let r := modified k (bits s.regs.p.m) (Spec.acc s.regs).toNat s.regs.p.c
      { s with regs := { s.regs with
        c := mix s.regs.p.m s.regs.c (BitVec.ofNat 16 r.1)
        p := { nz s.regs.p.m (BitVec.ofNat 16 r.1) s.regs.p with c := r.2 }, pc := s.regs.pc + 1 } } := by
  have h := hF (acc_lt s.regs) s.regs.p.c
  rw [acc_eq] at h
  simp only [mix_eq, nz_eq, acc_eq, modifyAcc, State.onRegs, Regs.setNZC, Regs.setAcc, Regs.setNZ, Regs.advance,
    Regs.wA]
  rw [h]
  rfl

/-- A shift or count of memory, in numbers (R180). -/
theorem completesStoring_modifyMem {i : Instr} {md : MemMode} {s : State} {F : Width → Word → Bool → Word × Bool}
    (hwf : s.mem.wf = true) (ho : i.dataOperand = some (.mem md)) (hF : Modifies i.mnemonic F)
    (he : operandMeaning i.mnemonic (.mem md) s = modifyMem F md s) :
    let r := modified i.mnemonic (bits s.regs.p.m) (loadMem md s.regs.wA s).1.toNat s.regs.p.c
    completesStoring i s { s.regs with
        p := { nz s.regs.p.m (BitVec.ofNat 16 r.1) s.regs.p with c := r.2 }, pc := nextPC i s.regs }
      (stored (effAddr md s).1 s.regs.p.m (BitVec.ofNat 16 r.1) s) := by
  have h : F s.regs.wA (loadMem md s.regs.wA s).1 s.regs.p.c = _ :=
    hF (bits_ofFlag s.regs.p.m ▸ loadMem_lt md s.regs.wA s) s.regs.p.c
  have hs := completesStoring_storeBack (g := Regs.setNZC s.regs.wA (F s.regs.wA (loadMem md s.regs.wA s).1 s.regs.p.c))
    hwf ho (F s.regs.wA (loadMem md s.regs.wA s).1 s.regs.p.c).1 (fun _ => rfl) he
  rw [h] at hs
  simp only [nz_eq]
  exact hs

end Sys2Proof.Machine

namespace Sys2Proof

open Sys2Proof.Machine Sys2Proof.Spec

/-- Settles O16: the valid branch of `exec_decimal`, its result in numbers by `decimalOf_spec`. -/
theorem decimalOnBcd : Obligations.DecimalOnBcd := by
  unfold Obligations.DecimalOnBcd
  intro i s hk hd
  obtain ⟨o, ho⟩ := exists_dataOperand hk
  refine ⟨o, ho, fun ha hm => ?_⟩
  obtain ⟨n, l, hl⟩ := loadOperand_frame o s.regs.wA s
  obtain ⟨hlt, hbcd, hval, hcarry⟩ :=
    decimalOf_spec hk s.regs.p.m (Spec.acc s.regs) (loadOperand o s.regs.wA s).1 s.regs.p.c
  refine ⟨_, n, l, hlt, hbcd, hval, ?_⟩
  have hv : decimalOperands s.regs.wA s.regs.acc (loadOperand o s.regs.wA s).1 = true := by
    rw [← acc_eq]
    exact (decimalOperands_eq _ _ _).trans (by rw [ha, hm]; rfl)
  rw [exec_decimal hk ho hd, if_pos hv, decimalResult_advance hl, nextPC_of_dataOperand ho,
    operandWidth_of_decimal hk, ← hcarry, acc_eq]
  rfl

/-- Settles O17: the other branch of `exec_decimal`. -/
theorem decimalOnOtherOperands : Obligations.DecimalOnOtherOperands := by
  unfold Obligations.DecimalOnOtherOperands
  intro i s hk hd
  obtain ⟨o, ho⟩ := exists_dataOperand hk
  refine ⟨o, ho, fun hbad => ?_⟩
  obtain ⟨n, l, hl⟩ := loadOperand_frame o s.regs.wA s
  refine ⟨n, l, ?_⟩
  have hv : ¬ decimalOperands s.regs.wA s.regs.acc (loadOperand o s.regs.wA s).1 = true := by
    rw [← acc_eq, Regs.wA, decimalOperands_eq, Bool.and_eq_true]
    exact hbad
  rw [exec_decimal hk ho hd, if_neg hv, decimalInvalid_advance hl, nextPC_of_dataOperand ho,
    operandWidth_of_decimal hk]

/-- Settles O18: the three are `Status.compare`, at the width of M or of X. -/
theorem comparisons : Obligations.Comparisons := by
  unfold Obligations.Comparisons
  intro i s f a h
  obtain ⟨hk, rfl, rfl⟩ | ⟨hk, rfl, rfl⟩ | ⟨hk, rfl, rfl⟩ := h <;>
    obtain ⟨o, ho⟩ := exists_dataOperand (List.mem_singleton.mpr hk) <;>
    refine ⟨o, ho, ?_⟩ <;> simp only [← compare_eq]
  · rw [acc_eq]
    exact completes_withAccOperand ho (by rw [hk]; rfl) (fun w m g => { g with p := g.p.compare w g.acc m })
      (by rw [hk]; rfl)
  · rw [low_eq]
    exact completes_withIndexOperand ho (by rw [hk]; rfl) (fun w m g => { g with p := g.p.compare w (w.trunc g.x) m })
      (by rw [hk]; rfl)
  · rw [low_eq]
    exact completes_withIndexOperand ho (by rw [hk]; rfl) (fun w m g => { g with p := g.p.compare w (w.trunc g.y) m })
      (by rw [hk]; rfl)

/-- Settles O19: each of the four is a `storeMem` of its value. -/
theorem storesWriteTheirOperand : Obligations.StoresWriteTheirOperand := by
  unfold Obligations.StoresWriteTheirOperand
  intro i s f v hwf h
  have hk : i.mnemonic ∈ [.sta, .stx, .sty, .stz, .trb, .tsb] := by
    obtain ⟨hk, -⟩ | ⟨hk, -⟩ | ⟨hk, -⟩ | ⟨hk, -⟩ := h <;> rw [hk] <;> decide
  obtain ⟨md, ho⟩ := exists_memOperand hk
  refine ⟨md, ho, completesStoring_storeMem hwf ho f v ?_⟩
  obtain ⟨hk, rfl, rfl⟩ | ⟨hk, rfl, rfl⟩ | ⟨hk, rfl, rfl⟩ | ⟨hk, rfl, rfl⟩ := h <;> rw [hk]
  · rw [acc_eq]; rfl
  · rw [low_eq]; rfl
  · rw [low_eq]; rfl
  · rfl

/-- Settles O20: the immediate form writes Z alone, the others N and V too. -/
theorem bitTests : Obligations.BitTests := by
  unfold Obligations.BitTests
  intro i s hk
  obtain ⟨o, ho⟩ := exists_dataOperand (List.mem_singleton.mpr hk)
  refine ⟨o, ho, ?_⟩
  have he : exec i s = .next (bitTest o s) := (exec_of_dataOperand ho s).trans (by rw [hk]; rfl)
  dsimp only
  rw [acc_eq, nextPC_of_dataOperand ho, hk]
  cases o with
  | imm v =>
    rw [if_pos ((mode_eq_immediate_iff ho).mpr ⟨v, rfl⟩)]
    exact completes_of_onRegs (u := s)
      (f := fun g => (g.setTestZ (s.regs.wA.trunc v)).advance (operandLen s.regs.wA (.imm v))) he ⟨_, _, rfl⟩
  | mem md =>
    rw [if_neg (by simp [mode_eq_immediate_iff ho]), ← bits_ofFlag]
    let m := loadOperand (.mem md) s.regs.wA s
    exact completes_of_onRegs (u := m.2)
      (f := fun g => ({ g.setTestZ m.1 with
        p := { (g.setTestZ m.1).p with n := s.regs.wA.msb m.1, v := s.regs.wA.nextMsb m.1 } } : Regs).advance
          (operandLen s.regs.wA (.mem md))) he (loadOperand_frame _ _ _)

/-- Settles O26: both load a value that is of the index width already. -/
theorem loadIndexRegister : Obligations.LoadIndexRegister := by
  unfold Obligations.LoadIndexRegister
  intro i s hk
  obtain ⟨o, ho⟩ := exists_dataOperand hk
  refine ⟨o, ho, ?_⟩
  simp only [low_eq, nz_eq]
  simp only [List.mem_cons, List.not_mem_nil, or_false] at hk
  obtain hk | hk := hk <;> simp only [hk, reduceCtorEq, if_true, if_false]
  · exact completes_withIndexOperand ho (by rw [hk]; rfl) (fun w m g => (g.setX m).setNZ w m) (by rw [hk]; rfl)
  · exact completes_withIndexOperand ho (by rw [hk]; rfl) (fun w m g => (g.setY m).setNZ w m) (by rw [hk]; rfl)

/-- Settles O21: each of the six is `modifyAcc` of a function that `modified` describes. -/
theorem accumulatorShiftsAndCounts : Obligations.AccumulatorShiftsAndCounts := by
  unfold Obligations.AccumulatorShiftsAndCounts
  intro i s hi
  simp only [accumulatorForms, List.mem_cons, List.not_mem_nil, or_false] at hi
  obtain rfl | rfl | rfl | rfl | rfl | rfl := hi
  · exact congrArg Host.Outcome.next (modifyAcc_eq modifies_ror s)
  · exact congrArg Host.Outcome.next (modifyAcc_eq modifies_asl s)
  · exact congrArg Host.Outcome.next (modifyAcc_eq modifies_lsr s)
  · exact congrArg Host.Outcome.next (modifyAcc_eq modifies_rol s)
  · exact congrArg Host.Outcome.next (modifyAcc_eq modifies_inc s)
  · exact congrArg Host.Outcome.next (modifyAcc_eq modifies_dec s)

/-- Settles O22: each of the six is `modifyMem` of a function that `modified` describes. -/
theorem memoryShiftsAndCounts : Obligations.MemoryShiftsAndCounts := by
  unfold Obligations.MemoryShiftsAndCounts
  intro i s hwf hk
  have hform : i ∈ accumulatorForms ∨ ∃ md, i.dataOperand = some (.mem md) := by
    cases i <;> first
      | exact .inr ⟨_, rfl⟩
      | exact .inl (by decide)
      | exact absurd hk (by simp [Instr.mnemonic, Instr.coding, modifiers])
  refine hform.imp_right fun ⟨md, ho⟩ => ⟨md, ho, ?_⟩
  simp only [modifiers, List.mem_cons, List.not_mem_nil, or_false] at hk
  obtain hk | hk | hk | hk | hk | hk := hk
  · exact completesStoring_modifyMem hwf ho (hk ▸ modifies_ror) (by rw [hk]; rfl)
  · exact completesStoring_modifyMem hwf ho (hk ▸ modifies_asl) (by rw [hk]; rfl)
  · exact completesStoring_modifyMem hwf ho (hk ▸ modifies_lsr) (by rw [hk]; rfl)
  · exact completesStoring_modifyMem hwf ho (hk ▸ modifies_rol) (by rw [hk]; rfl)
  · exact completesStoring_modifyMem hwf ho (hk ▸ modifies_inc) (by rw [hk]; rfl)
  · exact completesStoring_modifyMem hwf ho (hk ▸ modifies_dec) (by rw [hk]; rfl)

/-- Settles O23: both write back by `testModify`. -/
theorem testAndModify : Obligations.TestAndModify := by
  unfold Obligations.TestAndModify
  intro i s hwf hk
  obtain ⟨md, ho⟩ := exists_memOperand (show i.mnemonic ∈ _ from (by decide : [.trb, .tsb] ⊆ _) hk)
  refine ⟨md, ho, ?_⟩
  rw [acc_eq]
  simp only [List.mem_cons, List.not_mem_nil, or_false] at hk
  obtain hk | hk := hk <;> simp only [hk, reduceCtorEq, if_true, if_false]
  · exact completesStoring_storeBack (g := Regs.setTestZ (loadMem md s.regs.wA s).1) hwf ho _ (fun _ => rfl)
      (by rw [hk]; rfl)
  · exact completesStoring_storeBack (g := Regs.setTestZ (loadMem md s.regs.wA s).1) hwf ho _ (fun _ => rfl)
      (by rw [hk]; rfl)

end Sys2Proof
end

section
/-! PROOFS. Status bits, the rotation cycle, the implied instructions of group 4, branches. -/

namespace Sys2Proof.Machine

open Sys2Proof.Spec

/-! ### REP and SEP -/

/-- P unpacked from a byte whose bits are those of the image of P and of the immediate, combined by `g` (R34). -/
theorem unpack_of_bits {e : Bool} {p : Status} {imm v : Byte} {g : Bool → Bool → Bool}
    (hv : ∀ k < 8, v.getLsbD k = g ((p.pack e false).getLsbD k) (imm.getLsbD k)) :
    p.unpack e v = setBits e g imm p := by
  simp only [Status.unpack, setBits, hv 7 (by decide), hv 6 (by decide), hv 5 (by decide), hv 4 (by decide),
    hv 3 (by decide), hv 2 (by decide), hv 1 (by decide), hv 0 (by decide)]
  cases e <;> simp

/-- `UnpackP` narrows X and Y in native mode; under the invariant they are narrow already in emulation mode. -/
theorem unpackP_eq {r : Regs} (h : r.inv = true) (v : Byte) : r.unpackP v = withP r (r.p.unpack r.e v) := by
  rw [Regs.inv_iff] at h
  obtain ⟨hm, hx, -⟩ := h
  have narrow {w : Word} (hw : hi w = 0x00#8) : word 0x00#8 (lo w) = w := by rw [← hw, word_hi_lo]
  cases he : r.e
  · simp only [Regs.unpackP, he, Regs.narrowIndex, withP, low]
    generalize r.p.unpack false v = q
    cases q.x <;> simp
  · have hx' := hx (hm he).2
    simp [Regs.unpackP, withP, he, Status.unpack, low, (hm he).2, narrow hx'.1, narrow hx'.2]

/-! ### ROR as a rotation of `w + 1` bits -/

/-- The rotated number: C above the accumulator. -/
def rotated (r : Regs) : Nat := r.p.c.toNat * 2 ^ r.wA.bits + r.acc.toNat

theorem rotated_lt (r : Regs) : rotated r < 2 ^ (r.wA.bits + 1) := by
  have h1 := r.acc_lt
  have h2 := Bool.toNat_lt r.p.c
  have : r.p.c.toNat * 2 ^ r.wA.bits ≤ 1 * 2 ^ r.wA.bits := Nat.mul_le_mul_right _ (by omega)
  rw [rotated, pow_succ]
  omega

/-- The accumulator and C after one ROR. -/
def rorRegs (r : Regs) : Regs := (modifyAcc rorResult { State.reset with regs := r }).regs

theorem exec_rorAcc (s : State) : exec .rorAcc s = .next { s with regs := rorRegs s.regs } := rfl

@[simp] theorem rorRegs_pc (r : Regs) : (rorRegs r).pc = r.pc + 1 := rfl

@[simp] theorem rorRegs_wA (r : Regs) : (rorRegs r).wA = r.wA := rfl

/-- The low part of an accumulator just written is the value written. -/
theorem trunc_withLow (w : Width) (old v : Word) : w.trunc (withLow w old v) = w.trunc v := by
  cases w
  · simp [withLow, Width.trunc]
  · rfl

theorem rorRegs_acc (r : Regs) : (rorRegs r).acc = (rorResult r.wA r.acc r.p.c).1 :=
  (trunc_withLow r.wA r.c _).trans (Width.trunc_reduce _ _)

theorem rorRegs_hi (r : Regs) : r.wA = .w8 → hi (rorRegs r).c = hi r.c := by
  intro hw
  have h : (rorRegs r).c = withLow r.wA r.c (rorResult r.wA r.acc r.p.c).1 := rfl
  rw [h, hw, withLow, hi_word]

/-- One ROR moves the lowest bit to the top. -/
theorem rotated_rorRegs (r : Regs) :
    rotated (rorRegs r) = rotated r / 2 + rotated r % 2 * 2 ^ r.wA.bits := by
  have hlt := rotated_lt r
  have hc : (rorRegs r).p.c = r.acc.getLsbD 0 := rfl
  have hb : (r.acc.getLsbD 0).toNat = r.acc.toNat % 2 := by
    rw [getLsbD_zero_eq]
    obtain h | h := Nat.mod_two_eq_zero_or_one r.acc.toNat <;> rw [h] <;> rfl
  have hp : 2 ^ r.wA.bits = 2 * 2 ^ (r.wA.bits - 1) := by
    rw [← pow_succ', Nat.sub_add_cancel (by have := r.wA.bits_pos; omega)]
  have ha : (rorRegs r).acc.toNat = r.p.c.toNat * 2 ^ (r.wA.bits - 1) + r.acc.toNat / 2 := by
    rw [rorRegs_acc, rorResult, Width.reduce_toNat, Nat.mod_eq_of_lt]
    have := Bool.toNat_lt r.p.c
    have := r.acc_lt
    have : r.p.c.toNat * 2 ^ (r.wA.bits - 1) ≤ 1 * 2 ^ (r.wA.bits - 1) := Nat.mul_le_mul_right _ (by omega)
    omega
  have hdiv : rotated r / 2 = r.p.c.toNat * 2 ^ (r.wA.bits - 1) + r.acc.toNat / 2 := by
    rw [rotated, hp, Nat.mul_left_comm]
    omega
  have hmod : rotated r % 2 = r.acc.toNat % 2 := by
    rw [rotated, hp, Nat.mul_left_comm]
    omega
  rw [hdiv, hmod, rotated, hc, hb, ha, rorRegs_wA]
  exact Nat.add_comm _ _

/-- A rotation right of `w + 1` bits, repeated `k` times: the low `k` bits stand on top. -/
theorem rotate_iterate (w n : Nat) {k : Nat} (hk : k ≤ w + 1) :
    (fun n => n / 2 + n % 2 * 2 ^ w)^[k] n = n / 2 ^ k + n % 2 ^ k * 2 ^ (w + 1 - k) := by
  induction k with
  | zero => simp [Nat.mod_one]
  | succ k ih =>
    rw [Function.iterate_succ_apply', ih (by omega)]
    have hw : 2 ^ (w + 1 - k) = 2 * 2 ^ (w + 1 - (k + 1)) := by
      rw [← pow_succ']; congr 1; omega
    have hkw : 2 ^ w = 2 ^ k * 2 ^ (w + 1 - (k + 1)) := by
      rw [← pow_add]; congr 1; omega
    have h1 : (n / 2 ^ k + n % 2 ^ k * 2 ^ (w + 1 - k)) / 2 = n / 2 ^ (k + 1) + n % 2 ^ k * 2 ^ (w + 1 - (k + 1)) := by
      rw [hw, Nat.mul_left_comm, Nat.add_mul_div_left _ _ (by decide), Nat.div_div_eq_div_mul, pow_succ]
    have h2 : (n / 2 ^ k + n % 2 ^ k * 2 ^ (w + 1 - k)) % 2 = n / 2 ^ k % 2 := by
      rw [hw, Nat.mul_left_comm, Nat.add_mul_mod_self_left]
    rw [h1, h2, hkw, pow_succ, Nat.mod_mul]
    ring

/-- `w + 1` rotations of `w + 1` bits are none. -/
theorem rotate_iterate_full {w n : Nat} (h : n < 2 ^ (w + 1)) :
    (fun n => n / 2 + n % 2 * 2 ^ w)^[w + 1] n = n := by
  rw [rotate_iterate w n le_rfl, Nat.div_eq_of_lt h, Nat.mod_eq_of_lt h, Nat.sub_self]
  simp

/-- Repeating ROR: registers alone, PC one byte on each time, the rotated number rotated, B kept. -/
theorem repeated_rorAcc (n : Nat) (s : State) : ∃ t, repeated .rorAcc n s = .next t ∧
    t.regs.wA = s.regs.wA ∧ t.regs.pc = s.regs.pc + BitVec.ofNat 16 n ∧ (s.regs.wA = .w8 → hi t.regs.c = hi s.regs.c) ∧
    rotated t.regs = (fun n => n / 2 + n % 2 * 2 ^ s.regs.wA.bits)^[n] (rotated s.regs) := by
  induction n generalizing s with
  | zero => exact ⟨s, rfl, rfl, by simp, fun _ => rfl, rfl⟩
  | succ n ih =>
    obtain ⟨t, ht, hw, hpc, hhi, hrot⟩ := ih { s with regs := rorRegs s.regs }
    refine ⟨t, ?_, hw, ?_, fun h8 => (hhi h8).trans (rorRegs_hi _ h8), ?_⟩
    · rw [repeated, exec_rorAcc]
      exact ht
    · rw [hpc, rorRegs_pc, BitVec.add_assoc, BitVec.ofNat_add, BitVec.add_comm 1]
      rfl
    · rw [hrot, Function.iterate_succ_apply, rorRegs_wA, rotated_rorRegs]

/-- The rotated number and B hold the accumulator and C. -/
theorem rotated_inj {r r' : Regs} (hw : r'.wA = r.wA) (hb : r.wA = .w8 → hi r'.c = hi r.c)
    (h : rotated r' = rotated r) : r'.c = r.c ∧ r'.p.c = r.p.c := by
  have h1 := r.acc_lt
  have h2 := r'.acc_lt
  rw [hw] at h2
  have hdiv {q : Regs} (hq : q.acc.toNat < 2 ^ r.wA.bits) :
      (q.p.c.toNat * 2 ^ r.wA.bits + q.acc.toNat) / 2 ^ r.wA.bits = q.p.c.toNat := by
    rw [Nat.add_comm, Nat.add_mul_div_right _ _ (by positivity), Nat.div_eq_of_lt hq, Nat.zero_add]
  have hc : r'.p.c.toNat = r.p.c.toNat := by
    rw [← hdiv h2, ← hdiv h1]
    exact congrArg (· / 2 ^ r.wA.bits) (by simpa only [rotated, hw] using h)
  have ha : r'.acc = r.acc := by
    apply BitVec.eq_of_toNat_eq
    simp only [rotated, hw, hc] at h
    omega
  refine ⟨?_, by revert hc; cases r'.p.c <;> cases r.p.c <;> simp⟩
  simp only [Regs.acc, hw] at ha
  cases hr : r.wA <;> simp only [hr, Width.trunc] at ha
  · have hlo := congrArg lo ha
    rw [lo_word, lo_word] at hlo
    rw [← word_hi_lo r'.c, ← word_hi_lo r.c, hb hr, hlo]
  · exact ha

/-! ### Counts modulo the index width -/

/-- One more, from the low part or the whole (R215 to R219). -/
theorem trunc_add_one (f : Bool) (v : Word) : (Width.ofFlag f).trunc (v + 1) = wrap f ((low f v).toNat + 1) := by
  rw [wrap_eq, low_eq]
  apply BitVec.eq_of_toNat_eq
  rw [Width.trunc_toNat, Width.reduce_toNat, Width.trunc_toNat, BitVec.toNat_add]
  cases f <;> simp [Width.ofFlag, Width.bits]

/-- One less. -/
theorem trunc_sub_one (f : Bool) (v : Word) :
    (Width.ofFlag f).trunc (v - 1) = wrap f ((low f v).toNat + 2 ^ bits f - 1) := by
  rw [wrap_eq, low_eq]
  apply BitVec.eq_of_toNat_eq
  rw [Width.trunc_toNat, Width.reduce_toNat, Width.trunc_toNat, BitVec.toNat_sub, bits_ofFlag]
  cases f <;> simp [bits] <;> omega

/-- A result for X, in the statements' words. -/
theorem exec_resultX {i : Instr} {s : State} {v : Regs → Word}
    (he : exec i s = .next (impliedOp (fun g => g.resultX (v g)) s)) :
    exec i s = .next { s with regs := { s.regs with
      x := (Width.ofFlag s.regs.p.x).trunc (v s.regs)
      p := nz s.regs.p.x ((Width.ofFlag s.regs.p.x).trunc (v s.regs)) s.regs.p, pc := s.regs.pc + 1 } } := by
  rw [nz_eq, setNZ_trunc]
  exact he

theorem exec_resultY {i : Instr} {s : State} {v : Regs → Word}
    (he : exec i s = .next (impliedOp (fun g => g.resultY (v g)) s)) :
    exec i s = .next { s with regs := { s.regs with
      y := (Width.ofFlag s.regs.p.x).trunc (v s.regs)
      p := nz s.regs.p.x ((Width.ofFlag s.regs.p.x).trunc (v s.regs)) s.regs.p, pc := s.regs.pc + 1 } } := by
  rw [nz_eq, setNZ_trunc]
  exact he

theorem exec_resultAcc {i : Instr} {s : State} {v : Regs → Word}
    (he : exec i s = .next (impliedOp (fun g => g.resultAcc (v g)) s)) :
    exec i s = .next { s with regs := { s.regs with
      c := mix s.regs.p.m s.regs.c (v s.regs)
      p := nz s.regs.p.m (low s.regs.p.m (v s.regs)) s.regs.p, pc := s.regs.pc + 1 } } := by
  rw [nz_eq, mix_eq, low_eq, setNZ_trunc]
  exact he

/-- S written as a transfer writes it: SL alone in emulation mode, where SH is 01H (R24). -/
theorem setS_eq {r : Regs} (h : r.inv = true) (v : Word) :
    r.setS v = { r with sp := if r.e then word 0x01#8 (lo v) else v } := by
  obtain ⟨-, -, hs⟩ := (Regs.inv_iff r).mp h
  cases he : r.e
  · simp [Regs.setS, he]
  · simp [Regs.setS, he, hs he]

/-! ### Branches -/

/-- The address after a short branch plus its signed offset, as a number inside the bank (R300). -/
theorem branch_target (pc : Word) (off : Byte) : pc + 2 + sext off = BitVec.ofInt 16 (pc.toNat + 2 + off.toInt) := by
  rw [BitVec.ofInt_add, BitVec.ofInt_add, sext, BitVec.signExtend, BitVec.ofInt_natCast, BitVec.ofNat_toNat,
    BitVec.setWidth_eq]
  rfl

theorem branchIf_eq (cond : Status → Bool) (off : Byte) (s : State) :
    branchIf cond off s = { s with regs := { s.regs with
      pc := if cond s.regs.p then BitVec.ofInt 16 (s.regs.pc.toNat + 2 + off.toInt) else s.regs.pc + 2 } } := by
  rw [← branch_target]
  cases h : cond s.regs.p <;> simp [branchIf, State.onRegs, Regs.jump, Regs.advance, h]

end Sys2Proof.Machine

namespace Sys2Proof

open Sys2Proof.Machine Sys2Proof.Spec

/-- Settles O24: the byte unpacked has the bits of the image of P, each cleared or set by the immediate's
(`unpack_of_bits`). -/
theorem statusBitInstructions : Obligations.StatusBitInstructions := by
  unfold Obligations.StatusBitInstructions
  intro s imm hinv
  have hrep := unpack_of_bits (e := s.regs.e) (p := s.regs.p) (imm := imm)
    (v := s.regs.p.pack s.regs.e false &&& ~~~imm) (g := fun flag bit => flag && !bit)
    fun k hk => by rw [BitVec.getLsbD_and, BitVec.getLsbD_not, decide_eq_true hk, Bool.true_and]
  have hsep := unpack_of_bits (e := s.regs.e) (p := s.regs.p) (imm := imm)
    (v := s.regs.p.pack s.regs.e false ||| imm) (g := fun flag bit => flag || bit)
    fun k hk => by rw [BitVec.getLsbD_or]
  rw [← hrep, ← hsep, ← unpackP_eq hinv, ← unpackP_eq hinv]
  simp only [exec, execRep, execSep, repOp, sepOp, State.onRegs, Regs.advance, Regs.unpackP_pc]
  exact ⟨rfl, rfl⟩

/-- Settles O25: `w + 1` rotations of the `w + 1` bits of C and the accumulator are none (`rotate_iterate_full`). -/
theorem rorCycleRestores : Obligations.RorCycleRestores := by
  unfold Obligations.RorCycleRestores
  intro s
  obtain ⟨t, ht, hw, hpc, hhi, hrot⟩ := repeated_rorAcc (bits s.regs.p.m + 1) s
  have hb : bits s.regs.p.m = s.regs.wA.bits := (bits_ofFlag _).symm
  rw [hb, rotate_iterate_full (rotated_lt s.regs)] at hrot
  obtain ⟨hc, hcarry⟩ := rotated_inj hw hhi hrot
  exact ⟨t, ht, hc, hcarry, hpc⟩

/-- Settles O27: the count of the whole register, reduced to the width, is the count of its low part. -/
theorem indexSteps : Obligations.IndexSteps := by
  unfold Obligations.IndexSteps
  intro s
  simp only [← trunc_add_one, ← trunc_sub_one]
  exact ⟨exec_resultX (v := fun g => g.x + 1) rfl, exec_resultY (v := fun g => g.y + 1) rfl,
    exec_resultX (v := fun g => g.x - 1) rfl, exec_resultY (v := fun g => g.y - 1) rfl⟩

/-- Settles O28: transfers to X and Y are `resultX` and `resultY` of the source, those to the accumulator
`resultAcc`. -/
theorem indexTransfers : Obligations.IndexTransfers := by
  unfold Obligations.IndexTransfers
  intro s
  simp only [wrap_eq, reduce_eq_trunc]
  exact ⟨exec_resultX rfl, exec_resultY rfl, exec_resultX rfl, exec_resultY rfl, exec_resultX rfl, exec_resultAcc rfl,
    exec_resultAcc rfl⟩

/-- Settles O29: `setS_eq`, and the flags of TXS by the parameter. -/
theorem transfersToStackPointer : Obligations.TransfersToStackPointer := by
  unfold Obligations.TransfersToStackPointer
  intro s hinv
  simp only [nz_eq, low_eq, setNZ_trunc, exec, execTxs, execTcs, txsOp, impliedOp, State.onRegs, setS_eq hinv]
  refine ⟨?_, rfl⟩
  cases s.params.txsSetsNZ <;> rfl

/-- Settles O31: N and Z at 16 bits for the first three, of the new A for XBA, which is its own inverse on C. -/
theorem sixteenBitTransfers : Obligations.SixteenBitTransfers := by
  unfold Obligations.SixteenBitTransfers
  intro s
  simp only [nz_eq, word_zero_eq_zext]
  refine ⟨rfl, rfl, rfl, rfl, _, rfl, ?_⟩
  simp [impliedOp, Regs.exchangeBA]

/-- Settles O32: `exchangeCE` enforces emulation mode exactly when C was 1. -/
theorem exchangeCE : Obligations.ExchangeCE := by
  unfold Obligations.ExchangeCE
  intro s
  refine ⟨fun hc => ?_, fun hc => ?_, ⟨_, _, rfl, rfl, ?_⟩, ⟨_, _, rfl, rfl, ?_⟩⟩
  · simp [exec, execXce, impliedOp, State.onRegs, Regs.advance, Regs.exchangeCE, Regs.enforceEmulation, hc]
  · simp [exec, execXce, impliedOp, State.onRegs, Regs.advance, Regs.exchangeCE, Regs.enforceEmulation, hc]
  · simp [impliedOp, Regs.advance]
  · simp [impliedOp, Regs.advance]

/-- Settles O45: the short branches are `branchIf` of their conditions; the target as a number is `branch_target`. -/
theorem branches : Obligations.Branches := by
  unfold Obligations.Branches
  refine fun s => ⟨fun i taken o h => ?_, fun off => ?_⟩
  · simp only [List.mem_cons, Prod.mk.injEq, List.not_mem_nil, or_false] at h
    obtain ⟨rfl, rfl⟩ | ⟨rfl, rfl⟩ | ⟨rfl, rfl⟩ | ⟨rfl, rfl⟩ | ⟨rfl, rfl⟩ | ⟨rfl, rfl⟩ | ⟨rfl, rfl⟩ | ⟨rfl, rfl⟩ |
      ⟨rfl, rfl⟩ := h <;>
    exact congrArg Host.Outcome.next (branchIf_eq _ o s)
  · have ht : s.regs.pc + 3 + off = BitVec.ofNat 16 (s.regs.pc.toNat + 3 + off.toNat) := by
      simp [BitVec.ofNat_add]
    rw [← ht]
    rfl

end Sys2Proof
end

section
/-! PROOFS. The stack (R24, R33): S moved by a number, what a run of pushes leaves and what pulls give, in the words of
the statements. -/

namespace Sys2Proof.Machine

open Sys2Proof.Spec

/-! ### Moving S -/

/-- The registers with S moved by `d`. -/
def Regs.moved (d : Int) (r : Regs) : Regs := { r with sp := moveS r d }

@[simp] theorem Regs.moved_e (d : Int) (r : Regs) : (r.moved d).e = r.e := rfl

theorem moveS_moved (r : Regs) (d d' : Int) : moveS (r.moved d) d' = moveS r (d + d') := by
  cases he : r.e <;> simp [moveS, Regs.moved, he, BitVec.ofInt_add, BitVec.add_assoc]

theorem Regs.moved_moved (r : Regs) (d d' : Int) : (r.moved d).moved d' = r.moved (d + d') := by
  have h : (r.moved d).moved d' = { r with sp := moveS (r.moved d) d' } := rfl
  rw [h, moveS_moved]
  rfl

theorem slot_moved (r : Regs) (d d' : Int) : slot (r.moved d) d' = slot r (d + d') := by
  rw [slot, moveS_moved, slot]

/-- A register file whose S stands `d` away from that of another has its places `d` away. -/
theorem slot_of_sp {r r' : Regs} {d : Int} (hsp : r'.sp = moveS r d) (he : r'.e = r.e) (d' : Int) :
    slot r' d' = slot r (d + d') := by
  rw [← slot_moved]
  simp only [slot, moveS, Regs.moved_e, he, hsp]
  rfl

theorem Regs.moved_inv (d : Int) {r : Regs} (h : r.inv = true) : (r.moved d).inv = true := by
  rw [Regs.inv_iff] at h ⊢
  obtain ⟨hm, hx, -⟩ := h
  exact ⟨hm, hx, fun he => by simp [Regs.moved, moveS, show r.e = true from he]⟩

section
variable {r : Regs} (h : r.inv = true)
include h

theorem hi_sp (he : r.e = true) : hi r.sp = 0x01#8 := ((Regs.inv_iff r).mp h).2.2 he

theorem moveS_zero : moveS r 0 = r.sp := by
  cases he : r.e
  · simp [moveS, he]
  · have hw : word 0x01#8 (lo r.sp) = r.sp := by rw [← hi_sp h he, word_hi_lo]
    simp [moveS, he, hw]

theorem moved_zero : r.moved 0 = r := by
  rw [Regs.moved, moveS_zero h]

theorem decS_eq : r.decS = r.moved (-1) := by
  cases he : r.e
  · simp [Regs.decS, Regs.setS, Regs.moved, moveS, he, BitVec.sub_eq_add_neg]
  · simp [Regs.decS, Regs.setS, Regs.moved, moveS, he, BitVec.sub_eq_add_neg, hi_sp h he]

theorem incS_eq : r.incS = r.moved 1 := by
  cases he : r.e
  · simp [Regs.incS, Regs.setS, Regs.moved, moveS, he]
  · simp [Regs.incS, Regs.setS, Regs.moved, moveS, he, hi_sp h he]

theorem stackAddr_eq : r.stackAddr = slot r 0 := by
  rw [slot, moveS_zero h]
  rfl

end

/-- Equal places are a multiple of 256 apart. -/
theorem emod_eq_of_slot_eq {r : Regs} {a b : Int} (h : slot r a = slot r b) : a % 256 = b % 256 := by
  have hs := (bankAddr_inj _).mp h
  cases he : r.e <;> simp only [moveS, he, if_true, Bool.false_eq_true, if_false] at hs
  · have := congrArg BitVec.toNat ((BitVec.add_right_inj _).mp hs)
    simp only [BitVec.toNat_ofInt] at this
    omega
  · have hl := congrArg lo hs
    rw [lo_word, lo_word] at hl
    have := congrArg BitVec.toNat ((BitVec.add_right_inj _).mp hl)
    simp only [BitVec.toNat_ofInt] at this
    omega

/-! ### Runs of pushes -/

/-- Push the bytes in order. -/
def pushAll (bs : List Byte) (s : State) : State := bs.foldl (fun t b => push8 b t) s

@[simp] theorem pushAll_nil (s : State) : pushAll [] s = s := rfl

@[simp] theorem pushAll_cons (b : Byte) (bs : List Byte) (s : State) :
    pushAll (b :: bs) s = pushAll bs (push8 b s) := rfl

theorem pushWidth_eq (f : Bool) (v : Word) (s : State) :
    pushWidth (Width.ofFlag f) v s = pushAll (pushBytes f v) s := by
  cases f <;> rfl

theorem pushAll_outside (bs : List Byte) (s : State) :
    sameOutside s (pushAll bs s) ∧ (pushAll bs s).draws = s.draws := by
  induction bs generalizing s with
  | nil => exact ⟨⟨rfl, rfl, rfl, rfl, rfl, rfl⟩, rfl⟩
  | cons b bs ih => simpa [sameOutside] using ih (push8 b s)

theorem pushAll_params (bs : List Byte) (s : State) : (pushAll bs s).params = s.params := by
  obtain ⟨⟨-, -, -, -, hp, -⟩, -⟩ := pushAll_outside bs s
  exact hp

theorem pushAll_regs (bs : List Byte) {s : State} (h : s.regs.inv = true) :
    (pushAll bs s).regs = s.regs.moved (-(bs.length : Int)) := by
  induction bs generalizing s with
  | nil => exact (moved_zero h).symm
  | cons b bs ih =>
    have hp : (push8 b s).regs = s.regs.moved (-1) := (push8_regs b s).trans (decS_eq h)
    rw [pushAll_cons, ih (hp ▸ Regs.moved_inv _ h), hp, Regs.moved_moved]
    congr 1
    push_cast [List.length_cons]
    ring

/-- One push first, the others after it: they fill other places. -/
theorem pushed_push8 (b : Byte) {s : State} (h : s.inv = true) (a : Addr) (bs : List Byte) (k : Nat)
    (hk : k + bs.length < 256) :
    pushed k bs (push8 b s) a = if a = slot s.regs 0 ∧ s.kindAt a = .ram then b else pushed (k + 1) bs s a := by
  obtain ⟨hr, hm⟩ := (State.inv_iff s).mp h
  have hregs : (push8 b s).regs = s.regs.moved (-1) := (push8_regs b s).trans (decS_eq hr)
  have hkind (a : Addr) : (push8 b s).kindAt a = s.kindAt a := kindAt_congr (by simp) a
  induction bs generalizing k with
  | nil =>
    have hb : (push8 b s).byteAt a = (writeByte s.regs.stackAddr b s).byteAt a := rfl
    rw [pushed, hb, writeByte_byteAt _ _ hm, stackAddr_eq hr, pushed]
    by_cases ha : a = slot s.regs 0
    · rw [ha]
    · simp [ha]
  | cons c cs ih =>
    rw [List.length_cons] at hk
    have hslot : slot (push8 b s).regs (-(k : Int)) = slot s.regs (-((k + 1 : Nat) : Int)) := by
      rw [hregs, slot_moved]
      congr 1
      push_cast
      ring
    have hne : slot s.regs 0 ≠ slot s.regs (-((k + 1 : Nat) : Int)) := fun he => by
      have := emod_eq_of_slot_eq he
      omega
    rw [pushed, hslot, hkind, ih (k + 1) (by omega), pushed]
    by_cases ha : a = slot s.regs 0
    · have hother : ¬ (a = slot s.regs (-((k + 1 : Nat) : Int)) ∧ s.kindAt a = .ram) :=
        fun hc => hne (ha.symm.trans hc.1)
      simp only [if_neg hother]
    · simp [ha]

/-- Every byte after a run of pushes. -/
theorem pushAll_byteAt (bs : List Byte) {s : State} (h : s.inv = true) (hl : bs.length ≤ 256) (a : Addr) :
    (pushAll bs s).byteAt a = pushed 0 bs s a := by
  induction bs generalizing s with
  | nil => rfl
  | cons b bs ih =>
    rw [List.length_cons] at hl
    rw [pushAll_cons, ih (push8_inv b h) (by omega), pushed_push8 b h a bs 0 (by omega), pushed]
    rfl

/-- Where the places of a run of pushes lie in RAM, each holds its byte. -/
theorem pushed_slot {s : State} {n : Nat} (hram : stackInRam n s) (bs : List Byte) (k j : Nat)
    (hj : k + j < n) (hn : n ≤ 256) (hb : j < bs.length) :
    pushed k bs s (slot s.regs (-((k + j : Nat) : Int))) = bs[j] := by
  induction bs generalizing k j with
  | nil => exact absurd hb (by simp)
  | cons b bs ih =>
    cases j with
    | zero => simp [pushed, hram k hj]
    | succ j =>
      have hne : slot s.regs (-((k + (j + 1) : Nat) : Int)) ≠ slot s.regs (-(k : Int)) := fun he => by
        have := emod_eq_of_slot_eq he
        omega
      rw [pushed, if_neg fun hc => hne hc.1]
      have := ih (k + 1) j (by omega) (by simpa using hb)
      rwa [show k + 1 + j = k + (j + 1) by omega] at this

/-- What a state holds above its stack pointer after a run of pushes into RAM: the bytes, the last one first. -/
theorem stackByte_of_pushed {s t : State} {n : Nat} (bs : List Byte) (hram : stackInRam n s) (hn : n ≤ 256)
    (hl : bs.length ≤ n) {r : Regs} (hr : t.regs = r) (hsp : r.sp = moveS s.regs (-(bs.length : Int)))
    (he : r.e = s.regs.e) (hb : ∀ a, t.byteAt a = pushed 0 bs s a) (k : Nat) (hk : 1 ≤ k) (hkl : k ≤ bs.length) :
    stackByte t k = bs[bs.length - k]'(by omega) := by
  have hslot : slot r k = slot s.regs (-((0 + (bs.length - k) : Nat) : Int)) := by
    rw [slot_of_sp hsp he]
    congr 1
    omega
  rw [stackByte, hr, hslot, hb, pushed_slot hram bs 0 _ (by omega) hn (by omega)]

/-! ### Pulls -/

/-- What a pull leaves. -/
theorem pull8_state {s : State} (h : s.regs.inv = true) :
    ∃ n l, (pull8 s).2 = { s with regs := s.regs.moved 1, draws := n, deviceLog := l } := by
  rw [← incS_eq h]
  exact pull8_frame s

/-- What it gives where the place is in RAM or ROM. -/
theorem pull8_value {s : State} (h : s.regs.inv = true) (hm : isMemory s (slot s.regs 1) = true) :
    (pull8 s).1 = stackByte s 1 := by
  have haddr : (s.onRegs Regs.incS).regs.stackAddr = slot s.regs 1 := by
    rw [State.onRegs_regs, incS_eq h, stackAddr_eq (Regs.moved_inv 1 h), slot_moved]
    rfl
  have hk : (s.onRegs Regs.incS).kindAt (slot s.regs 1) = .ram ∨ (s.onRegs Regs.incS).kindAt (slot s.regs 1) = .rom :=
    isMemory_iff.mp hm
  rw [pull8, haddr, readByte_memory hk]
  rfl

/-- The stack seen from a state whose S stands `d` further up: the same bytes, `d` places higher. -/
theorem stack_above {s t : State} {d : Nat} (hsp : t.regs.sp = moveS s.regs d) (he : t.regs.e = s.regs.e)
    (hm : t.mem = s.mem) (hp : t.params = s.params) (k : Nat) :
    stackByte t k = stackByte s (d + k) ∧
      isMemory t (slot t.regs k) = isMemory s (slot s.regs ((d + k : Nat) : Int)) := by
  have hs : slot t.regs k = slot s.regs ((d + k : Nat) : Int) := by
    rw [slot_of_sp hsp he]
    congr 1
  exact ⟨by rw [stackByte, stackByte, hs, byteAt_congr hm], by rw [hs, isMemory, isMemory, kindAt_congr hp]⟩

/-- The same of memory above the stack pointer. -/
theorem stackInMemory_above {s t : State} {d n : Nat} (hsp : t.regs.sp = moveS s.regs d) (he : t.regs.e = s.regs.e)
    (hm : t.mem = s.mem) (hp : t.params = s.params) (h : stackInMemory (d + n) s) : stackInMemory n t := fun k h1 hk =>
  ((stack_above hsp he hm hp k).2).trans (h (d + k) (by omega) (by omega))

theorem stackInMemory_mono {s : State} {m n : Nat} (h : stackInMemory n s) (hmn : m ≤ n) : stackInMemory m s :=
  fun k h1 hk => h k h1 (hk.trans hmn)

theorem pull16_state {s : State} (h : s.regs.inv = true) :
    ∃ n l, (pull16 s).2 = { s with regs := s.regs.moved 2, draws := n, deviceLog := l } := by
  obtain ⟨n, l, h1⟩ := pull8_state h
  obtain ⟨n', l', h2⟩ := pull8_state (s := (pull8 s).2) (by rw [h1]; exact Regs.moved_inv 1 h)
  refine ⟨n', l', ?_⟩
  have h3 : (pull16 s).2 = (pull8 (pull8 s).2).2 := rfl
  rw [h3, h2, h1]
  simp only [Regs.moved_moved]
  rfl

theorem pull16_value {s : State} (h : s.regs.inv = true) (hm : stackInMemory 2 s) :
    (pull16 s).1 = word (stackByte s 2) (stackByte s 1) := by
  obtain ⟨n, l, h1⟩ := pull8_state h
  have hsp : (pull8 s).2.regs.sp = moveS s.regs (1 : Nat) := by rw [h1]; rfl
  obtain ⟨hb, hk⟩ := stack_above hsp (by rw [h1]; rfl) (by simp) (by simp) 1
  have hv := pull8_value (s := (pull8 s).2) (by rw [h1]; exact Regs.moved_inv 1 h)
    (hk.trans (hm 2 (by decide) le_rfl))
  have h3 : (pull16 s).1 = word (pull8 (pull8 s).2).1 (pull8 s).1 := rfl
  rw [h3, hv, hb, pull8_value h (hm 1 le_rfl (by decide))]

/-- A pull of a width: S moved, a value of the width, the bytes above S where those lie in memory. -/
theorem pullWidth_spec (f : Bool) {s : State} (h : s.regs.inv = true) :
    (∃ n l, (pullWidth (Width.ofFlag f) s).2 =
      { s with regs := s.regs.moved ((bits f / 8 : Nat) : Int), draws := n, deviceLog := l }) ∧
    (pullWidth (Width.ofFlag f) s).1 = low f (pullWidth (Width.ofFlag f) s).1 ∧
    (stackInMemory (bits f / 8) s →
      (pullWidth (Width.ofFlag f) s).1 = low f (word (stackByte s 2) (stackByte s 1))) := by
  refine ⟨?_, by rw [low_eq, pullWidth_trunc], fun hm => ?_⟩ <;> cases f
  · exact pull16_state h
  · exact pull8_state h
  · exact pull16_value h hm
  · simp only [Width.ofFlag, pullWidth, low, if_true, lo_word]
    rw [pull8_value h (hm 1 le_rfl le_rfl)]

end Sys2Proof.Machine
end

section
/-! PROOFS. Pushes, pulls, subroutine returns, jumps and calls, and that a pull undoes a push, a return a call. -/

namespace Sys2Proof.Machine

open Sys2Proof.Spec

/-! ### The byte image of P -/

/-- The image written as a number is the one written bit by bit (R34). -/
theorem pack_eq_image (e b : Bool) (p : Status) : p.pack e b = image e b p := by
  obtain ⟨n, v, m, x, d, i, z, c⟩ := p
  cases e <;> decide +revert

theorem loadP_eq (e : Bool) (v : Byte) (p : Status) : loadP e v p = p.unpack e v := rfl

/-- Loading the image of P gives P back, M and X in emulation mode being those before (R34). -/
theorem loadP_image {e : Bool} {p q : Status} (b : Bool) (hm : e = true → q.m = p.m ∧ q.x = p.x) :
    loadP e (image e b p) q = p := by
  rw [loadP_eq, ← pack_eq_image]
  cases e
  · exact Status.unpack_pack_native b p q
  · obtain ⟨h1, h2⟩ := hm rfl
    rw [Status.unpack_pack_emulation, h1, h2]

theorem low_of_hi {f : Bool} {v : Word} (h : f = true → hi v = 0x00#8) : low f v = v := by
  cases f
  · rfl
  · rw [low, if_pos rfl, ← h rfl, word_hi_lo]

/-- Replacing P by itself narrows nothing, under the invariant. -/
theorem withP_self {r : Regs} (h : r.inv = true) : withP r r.p = r := by
  obtain ⟨-, hx, -⟩ := (Regs.inv_iff r).mp h
  rw [withP, low_of_hi fun h => (hx h).1, low_of_hi fun h => (hx h).2]

/-! ### Pushes -/

theorem pushed_congr {s u : State} (hr : u.regs = s.regs) (hm : u.mem = s.mem) (hp : u.params = s.params)
    (k : Nat) (bs : List Byte) (a : Addr) : pushed k bs u a = pushed k bs s a := by
  induction bs generalizing k with
  | nil => exact byteAt_congr hm a
  | cons b bs ih => rw [pushed, pushed, ih, hr, kindAt_congr hp]

theorem pushBytes_trunc (f : Bool) (v : Word) : pushBytes f ((Width.ofFlag f).trunc v) = pushBytes f v := by
  cases f <;> simp [pushBytes, Width.ofFlag, Width.trunc]

/-- An instruction that reads, pushes bytes and then changes the registers by `g`. -/
theorem completesStoring_pushAll {i : Instr} {s u : State} {g : Regs → Regs} {bs : List Byte} {d : Int}
    (h : s.inv = true) (hu : ∃ n l, u = { s with draws := n, deviceLog := l })
    (he : exec i s = .next ((pushAll bs u).onRegs g)) (hl : bs.length ≤ 256) (hd : d = -(bs.length : Int)) :
    completesStoring i s (g (s.regs.moved d)) (pushed 0 bs s) := by
  subst hd
  obtain ⟨n, l, rfl⟩ := hu
  have hi : State.inv { s with draws := n, deviceLog := l } = true := h
  obtain ⟨hr, -⟩ := (State.inv_iff _).mp hi
  refine completesStoring_of he (congrArg g (pushAll_regs bs hr)) (pushAll_outside bs _).1 fun a => ?_
  rw [pushAll_byteAt bs hi hl]
  exact pushed_congr (u := { s with draws := n, deviceLog := l }) (s := s) rfl rfl rfl 0 bs a

/-- One that goes on to the next instruction. -/
theorem completesStoring_push {i : Instr} {s u : State} {bs : List Byte} {len : Nat} (h : s.inv = true)
    (hu : ∃ n l, u = { s with draws := n, deviceLog := l })
    (he : exec i s = .next ((pushAll bs u).onRegs (Regs.advance len))) (hl : bs.length ≤ 256)
    (hlen : (encode s.regs.p.m s.regs.p.x i).length = len) :
    completesStoring i s { s.regs with sp := moveS s.regs (-(bs.length : Int)), pc := nextPC i s.regs }
      (pushed 0 bs s) := by
  have hs := completesStoring_pushAll h hu he hl rfl
  rwa [← hlen] at hs

theorem pushBytes_length_le (f : Bool) (v : Word) : (pushBytes f v).length ≤ 256 := by
  cases f <;> simp [pushBytes, pushWord]

/-! ### Pulls -/

/-- An instruction that pulls a value of a width and changes the registers by it. -/
theorem completes_pullOp {i : Instr} {s : State} {f : Bool} {g : Word → Regs → Regs} {r : Word → Regs}
    (h : s.regs.inv = true) (he : exec i s = .next (pullOp (Width.ofFlag f) g s))
    (hr : ∀ v, v = low f v → (g v (s.regs.moved ((bits f / 8 : Nat) : Int))).advance 1 = r v) :
    ∃ v, v = low f v ∧ (stackInMemory (bits f / 8) s → v = low f (word (stackByte s 2) (stackByte s 1))) ∧
      completes i s (r v) := by
  obtain ⟨⟨n, l, hs⟩, hlow, hmem⟩ := pullWidth_spec f h
  refine ⟨_, hlow, hmem, n, l, ?_⟩
  rw [he, pullOp, hs, ← hr _ hlow]
  rfl

theorem plbOp_eq (s : State) :
    plbOp s = pullOp .w8 (fun v g => ({ g with dbr := lo v } : Regs).setNZ .w8 v) s := by
  simp only [plbOp, pullOp, pullWidth, word_zero_eq_zext, lo_zext]

/-- A value of the index width goes to X whole. -/
theorem resultX_of_low {r : Regs} {v : Word} (hv : v = low r.p.x v) :
    r.resultX v = { r with x := v, p := nz r.p.x v r.p } := by
  rw [low_eq] at hv
  simp only [nz_eq, Regs.resultX, Regs.setX, Regs.setNZ, Regs.wX, ← hv]

theorem resultY_of_low {r : Regs} {v : Word} (hv : v = low r.p.x v) :
    r.resultY v = { r with y := v, p := nz r.p.x v r.p } := by
  rw [low_eq] at hv
  simp only [nz_eq, Regs.resultY, Regs.setY, Regs.setNZ, Regs.wX, ← hv]

/-- RTS: two bytes (R281). -/
theorem rtsOp_eq {s : State} (h : s.regs.inv = true) : ∃ n l, rtsOp s =
    { s with regs := { s.regs with sp := moveS s.regs 2, pc := (pull16 s).1 + 1 }, draws := n, deviceLog := l } := by
  obtain ⟨n, l, h1⟩ := pull16_state h
  refine ⟨n, l, ?_⟩
  rw [rtsOp, h1]
  rfl

/-- The byte above a pulled word: its value where it lies in memory, and the state after it. -/
theorem pull8_after_pull16 {s : State} (h : s.regs.inv = true) :
    (∃ n l, (pull8 (pull16 s).2).2 = { s with regs := s.regs.moved 3, draws := n, deviceLog := l }) ∧
      (stackInMemory 3 s → (pull8 (pull16 s).2).1 = stackByte s 3) := by
  obtain ⟨n, l, h1⟩ := pull16_state h
  have hinv : (pull16 s).2.regs.inv = true := by rw [h1]; exact Regs.moved_inv 2 h
  have hsp : (pull16 s).2.regs.sp = moveS s.regs (2 : Nat) := by rw [h1]; rfl
  refine ⟨?_, fun hm => ?_⟩
  · obtain ⟨n', l', h2⟩ := pull8_state hinv
    refine ⟨n', l', ?_⟩
    rw [h2, h1]
    simp only [Regs.moved_moved]
    rfl
  · obtain ⟨hb, hk⟩ := stack_above hsp (by rw [h1]; rfl) (by simp) (by simp) 1
    exact (pull8_value hinv (hk.trans (hm 3 (by decide) le_rfl))).trans hb

/-! ### Jumps -/

theorem indexedPointer_eq (s : State) (a : Word) (k : Nat) :
    (s.indexedPointerEA a).byteAddr k = indexedPointer s a k := by
  cases h : s.params.jmpPointerBank <;> simp [State.indexedPointerEA, indexedPointer, EA.byteAddr, EA.b0, h]

theorem b0_byteAddr (a : Word) (k : Nat) : (EA.b0 a).byteAddr k = bankAddr 0x00#8 (a + BitVec.ofNat 16 k) := rfl

@[simp] theorem b0_byteAddr_zero (a : Word) : (EA.b0 a).byteAddr 0 = bankAddr 0x00#8 a := by
  simp [b0_byteAddr]

@[simp] theorem b0_byteAddr_one (a : Word) : (EA.b0 a).byteAddr 1 = bankAddr 0x00#8 (a + 1) := rfl

@[simp] theorem b0_byteAddr_two (a : Word) : (EA.b0 a).byteAddr 2 = bankAddr 0x00#8 (a + 2) := rfl

/-- A word read from RAM or ROM. -/
theorem read16_value {ea : EA} {s : State} (h0 : isMemory s (ea.byteAddr 0) = true)
    (h1 : isMemory s (ea.byteAddr 1) = true) :
    (read16 ea s).1 = word (s.byteAt (ea.byteAddr 1)) (s.byteAt (ea.byteAddr 0)) := by
  rw [read16_memory (isMemory_iff.mp h0) (isMemory_iff.mp h1)]

/-- A jump through a pointer changes PC alone. -/
theorem completes_jumpThrough {i : Instr} {s : State} {ea : EA} (he : exec i s = .next (jumpThrough ea s)) :
    completes i s { s.regs with pc := (read16 ea s).1 } :=
  completes_of_onRegs (f := Regs.jump (read16 ea s).1) he (read16_frame ea s)

theorem offsetOf_eq (a : Addr) : offsetOf a = BitVec.ofNat 16 (a.toNat % 65536) := by
  apply BitVec.eq_of_toNat_eq
  simp [offsetOf_toNat]

theorem bankOf_eq (a : Addr) : bankOf a = BitVec.ofNat 8 (a.toNat / 65536) := by
  apply BitVec.eq_of_toNat_eq
  have := a.isLt
  rw [bankOf_toNat, BitVec.toNat_ofNat]
  omega

/-- JSL pushes PBR, then the address of its last byte (R323). -/
theorem jslOp_eq (a : Addr) (s : State) :
    jslOp a s = (pushAll (s.regs.pbr :: pushWord (s.regs.pc + 3)) s).onRegs fun g =>
      { g with pc := offsetOf a, pbr := bankOf a } := by
  rw [jslOp, pushReturn, push8_regs]
  rfl

/-! ### A return undoes a call: the pushed word comes back -/

/-- The word above S after a run of pushes into RAM that ends in the word's two bytes. -/
theorem pulled_word {s t : State} {n : Nat} {bs : List Byte} {v : Word} (hram : stackInRam n s)
    (hn : n ≤ 256) (hl : bs.length + 2 ≤ n) {r : Regs} (hr : t.regs = r)
    (hsp : r.sp = moveS s.regs (-((bs ++ pushWord v).length : Int))) (he : r.e = s.regs.e)
    (hb : ∀ a, t.byteAt a = pushed 0 (bs ++ pushWord v) s a) :
    word (stackByte t 2) (stackByte t 1) = v := by
  have hlen : (bs ++ pushWord v).length = bs.length + 2 := by simp [pushWord]
  have h2 := stackByte_of_pushed _ hram hn (by omega) hr hsp he hb 2 (by decide) (by omega)
  have h1 := stackByte_of_pushed _ hram hn (by omega) hr hsp he hb 1 (by decide) (by omega)
  rw [h2, h1]
  simp [pushWord, List.getElem_append_right]

/-- After a run of pushes into RAM the places above S are RAM. -/
theorem stackInMemory_of_pushed {s t : State} {n m : Nat} (hram : stackInRam n s) {r : Regs} (hr : t.regs = r)
    (hsp : r.sp = moveS s.regs (-(m : Int))) (he : r.e = s.regs.e) (hp : t.params = s.params) (hmn : m ≤ n) :
    stackInMemory m t := by
  intro k h1 hk
  have hslot : slot t.regs k = slot s.regs (-((m - k : Nat) : Int)) := by
    rw [hr, slot_of_sp hsp he]
    congr 1
    omega
  rw [isMemory_iff, hslot, kindAt_congr hp]
  exact .inl (hram _ (by omega))

end Sys2Proof.Machine

namespace Sys2Proof

open Sys2Proof.Machine Sys2Proof.Spec

/-- Settles O36: each is a run of pushes and the next instruction, PEI after its pointer is read. -/
theorem pushes : Obligations.Pushes := by
  unfold Obligations.Pushes
  intro i s bs a off o h hi
  have self : ∃ n l, s = { s with draws := n, deviceLog := l } := ⟨_, _, rfl⟩
  simp only [List.mem_cons, Prod.mk.injEq, List.not_mem_nil, or_false] at hi
  obtain ⟨rfl, rfl⟩ | ⟨rfl, rfl⟩ | ⟨rfl, rfl⟩ | ⟨rfl, rfl⟩ | ⟨rfl, rfl⟩ | ⟨rfl, rfl⟩ | ⟨rfl, rfl⟩ | ⟨rfl, rfl⟩ |
    ⟨rfl, rfl⟩ | ⟨rfl, rfl⟩ := hi
  case inl =>
    refine completesStoring_push h self ?_ (pushBytes_length_le _ _) rfl
    rw [← pushBytes_trunc, ← pushWidth_eq]
    rfl
  case inr.inr.inr.inr.inl =>
    refine completesStoring_push h self ?_ (by simp) rfl
    rw [← pack_eq_image]
    rfl
  case inr.inr.inr.inr.inr.inl =>
    refine completesStoring_push h self ?_ (pushBytes_length_le _ _) rfl
    rw [← pushWidth_eq]
    rfl
  case inr.inr.inr.inr.inr.inr.inl =>
    refine completesStoring_push h self ?_ (pushBytes_length_le _ _) rfl
    rw [← pushWidth_eq]
    rfl
  case inr.inr.inr.inr.inr.inr.inr.inr.inl =>
    exact completesStoring_push (len := 2) h (read16_frame (EA.b0 (s.regs.dr + zext o)) s) rfl (by simp [pushWord]) rfl
  all_goals exact completesStoring_push h self rfl (by simp [pushWord]) rfl

/-- Settles O37: each is `pullOp` at its width (PLB by `plbOp_eq`). -/
theorem pulls : Obligations.Pulls := by
  unfold Obligations.Pulls
  intro i s f h hi
  obtain ⟨hr, -⟩ := (State.inv_iff s).mp h
  simp only [List.mem_cons, Prod.mk.injEq, List.not_mem_nil, or_false] at hi
  obtain ⟨rfl, rfl⟩ | ⟨rfl, rfl⟩ | ⟨rfl, rfl⟩ | ⟨rfl, rfl⟩ | ⟨rfl, rfl⟩ := hi
  · refine completes_pullOp hr rfl fun v _ => ?_
    rw [mix_eq, nz_eq]
    rfl
  · refine completes_pullOp hr (congrArg Host.Outcome.next (plbOp_eq s)) fun v _ => ?_
    rw [nz_eq]
    rfl
  · refine completes_pullOp (f := false) hr rfl fun v _ => ?_
    rw [nz_eq]
    rfl
  · refine completes_pullOp hr rfl fun v hv => ?_
    rw [resultX_of_low (r := s.regs.moved _) hv]
    rfl
  · refine completes_pullOp hr rfl fun v hv => ?_
    rw [resultY_of_low (r := s.regs.moved _) hv]
    rfl

/-- Settles O38: the pulled byte is unpacked (`unpackP_eq`) after S has moved. -/
theorem pullStatus : Obligations.PullStatus := by
  unfold Obligations.PullStatus
  intro s h
  obtain ⟨hr, -⟩ := (State.inv_iff s).mp h
  obtain ⟨n, l, hs⟩ := pull8_state hr
  refine ⟨(pull8 s).1, fun hm => pull8_value hr (hm 1 le_rfl le_rfl), n, l, ?_⟩
  have he : exec .plp s = .next (plpOp s) := rfl
  rw [he, plpOp, hs]
  simp only [State.onRegs, unpackP_eq (Regs.moved_inv 1 hr)]
  rfl

/-- Settles O43: two bytes for RTS, a third for RTL. -/
theorem subroutineReturns : Obligations.SubroutineReturns := by
  unfold Obligations.SubroutineReturns
  intro s h
  obtain ⟨hr, -⟩ := (State.inv_iff s).mp h
  obtain ⟨n, l, hrts⟩ := rtsOp_eq hr
  obtain ⟨⟨n', l', h3⟩, hbank⟩ := pull8_after_pull16 hr
  refine ⟨(pull16 s).1, (pull16 s).1, (pull8 (pull16 s).2).1, pull16_value hr, fun hm => ⟨?_, hbank hm⟩,
    ⟨n, l, congrArg Host.Outcome.next hrts⟩, n', l', ?_⟩
  · exact pull16_value hr (stackInMemory_mono hm (by decide))
  · have he : exec .rtl s = .next (rtlOp s) := rfl
    rw [he, rtlOp, h3]
    rfl

/-- Settles O46: the pointer forms are `completes_jumpThrough`, JML reads a third byte. -/
theorem jumps : Obligations.Jumps := by
  unfold Obligations.Jumps
  intro s a al
  refine ⟨fun m x => ⟨rfl, rfl, rfl, rfl, rfl⟩, rfl, ?_, ⟨_, completes_jumpThrough rfl, fun h0 h1 => ?_⟩,
    ⟨_, completes_jumpThrough rfl, fun h0 h1 => ?_⟩, _, _,
    completes_of_onRegs (u := (read24 (EA.b0 a) s).2)
      (f := fun g => { g with pc := offsetOf (read24 (EA.b0 a) s).1, pbr := bankOf (read24 (EA.b0 a) s).1 }) rfl
      (read24_frame _ _), fun h0 h1 h2 => ?_⟩
  · rw [← offsetOf_eq, ← bankOf_eq]
    rfl
  · rw [read16_value (by rwa [b0_byteAddr_zero]) (by rwa [b0_byteAddr_one]), b0_byteAddr_zero, b0_byteAddr_one]
  · rw [← indexedPointer_eq, ← indexedPointer_eq] at *
    exact read16_value h0 h1
  · rw [isMemory_iff] at h0 h1 h2
    rw [read24_memory (ea := EA.b0 a) (by rwa [b0_byteAddr_zero]) (by rwa [b0_byteAddr_one])
      (by rwa [b0_byteAddr_two])]
    simp

/-- Settles O47: a run of pushes, then the jump; JSR (a,x) reads its pointer in the state after the pushes. -/
theorem calls : Obligations.Calls := by
  unfold Obligations.Calls
  intro s a al h
  obtain ⟨hr, -⟩ := (State.inv_iff s).mp h
  have self : ∃ n l, s = { s with draws := n, deviceLog := l } := ⟨_, _, rfl⟩
  have hb := pushAll_byteAt (pushWord (s.regs.pc + 2)) h (by simp [pushWord])
  have hregs := pushAll_regs (pushWord (s.regs.pc + 2)) hr
  have hpar := pushAll_params (pushWord (s.regs.pc + 2)) s
  have hptr (k : Nat) : ((pushAll (pushWord (s.regs.pc + 2)) s).indexedPointerEA a).byteAddr k =
      indexedPointer s a k := by
    rw [indexedPointer_eq, indexedPointer, indexedPointer, hpar, hregs]
    rfl
  have hx : exec (.jsrAbsXInd a) s = .next (jumpThrough ((pushAll (pushWord (s.regs.pc + 2)) s).indexedPointerEA a)
      (pushAll (pushWord (s.regs.pc + 2)) s)) := rfl
  refine ⟨completesStoring_pushAll (g := Regs.jump a) h self rfl (by simp [pushWord]) rfl,
    ⟨(read16 ((pushAll (pushWord (s.regs.pc + 2)) s).indexedPointerEA a) (pushAll (pushWord (s.regs.pc + 2)) s)).1,
      completesStoring_of (g := Regs.jump _) hx ?_ ?_ fun a => ?_, fun h0 h1 => ?_⟩, ?_⟩
  · rw [read16_regs, hregs]
    rfl
  · simpa [sameOutside] using (pushAll_outside (pushWord (s.regs.pc + 2)) s).1
  · rw [byteAt_congr (read16_mem _ _), hb]
  · rw [read16_value (by rwa [hptr, isMemory, kindAt_congr hpar]) (by rwa [hptr, isMemory, kindAt_congr hpar]), hptr,
      hptr, hb, hb]
  · rw [← offsetOf_eq, ← bankOf_eq]
    exact completesStoring_pushAll (g := fun g => { g with pc := offsetOf al, pbr := bankOf al }) h self
      (congrArg Host.Outcome.next (jslOp_eq al s)) (by simp [pushWord]) rfl

end Sys2Proof
end

section
/-! PROOFS. A pull undoes the matching push, and a return its call: what the first instruction leaves on a stack in RAM
is what the second finds there. -/

namespace Sys2Proof.Machine

open Sys2Proof.Spec

/-- The bytes of a value pushed at a width, read back above S, give the value at that width. -/
theorem low_word_of_pushed {s t : State} {f : Bool} {v : Word} (hram : stackInRam 2 s) {r : Regs} (hr : t.regs = r)
    (hsp : r.sp = moveS s.regs (-((pushBytes f v).length : Int))) (he : r.e = s.regs.e)
    (hb : ∀ a, t.byteAt a = pushed 0 (pushBytes f v) s a) :
    low f (word (stackByte t 2) (stackByte t 1)) = low f v := by
  cases f
  · exact pulled_word (bs := []) hram (by decide) (by simp) hr hsp he hb
  · have h1 : stackByte t 1 = lo v := stackByte_of_pushed _ hram (by decide) (by simp [pushBytes]) hr hsp he hb 1
      le_rfl le_rfl
    simp [low, h1]

theorem pushBytes_length (f : Bool) (v : Word) : (pushBytes f v).length = bits f / 8 := by
  cases f <;> simp [pushBytes, pushWord, bits]

theorem moveS_back {r : Regs} (h : r.inv = true) (n : Nat) : moveS (r.moved (-(n : Int))) n = r.sp := by
  rw [moveS_moved, neg_add_cancel, moveS_zero h]

theorem mix_low (f : Bool) (v : Word) : mix f v (low f v) = v := by
  cases f <;> simp [mix, low, word_hi_lo]

end Sys2Proof.Machine

namespace Sys2Proof

open Sys2Proof.Machine Sys2Proof.Spec

/-- The registers a pull leaves, as `Pulls` says them. -/
def pulledRegs (j : Instr) (f : Bool) (v : Word) (r : Regs) : Regs := { r with
  c := if j = .pla then mix f r.c v else r.c
  dbr := if j = .plb then lo v else r.dbr
  dr := if j = .pld then v else r.dr
  x := if j = .plx then v else r.x
  y := if j = .ply then v else r.y
  sp := moveS r (bits f / 8 : Nat), p := nz f v r.p, pc := r.pc + 1 }

/-- The pushes that have a pull of a register, the width and the value pushed. -/
def pushPulls (r : Regs) : List (Instr × Instr × Bool × Word) :=
  [(.pha, .pla, r.p.m, r.c), (.phx, .plx, r.p.x, r.x), (.phy, .ply, r.p.x, r.y), (.phb, .plb, true, word 0x00#8 r.dbr),
    (.phd, .pld, false, r.dr)]

/-- Such a push and then its pull: the pull gets the value pushed. -/
theorem pull_after_push {i j : Instr} {s : State} {f : Bool} {v : Word} (h : s.inv = true) (hram : stackInRam 2 s)
    (hij : (i, j, f, v) ∈ pushPulls s.regs) :
    ∃ t u, exec i s = .next t ∧ exec j t = .next u ∧
      u.regs = { pulledRegs j f (low f v) s.regs with sp := s.regs.sp, pc := s.regs.pc + 2 } := by
  have hi : completesStoring i s
      { s.regs with sp := moveS s.regs (-((pushBytes f v).length : Int)), pc := s.regs.pc + 1 }
      (pushed 0 (pushBytes f v) s) := by
    have hp := pushes i s (pushBytes f v) 0 0 0 h
    simp only [pushPulls, List.mem_cons, Prod.mk.injEq, List.not_mem_nil, or_false] at hij
    obtain ⟨rfl, rfl, rfl, rfl⟩ | ⟨rfl, rfl, rfl, rfl⟩ | ⟨rfl, rfl, rfl, rfl⟩ | ⟨rfl, rfl, rfl, rfl⟩ |
      ⟨rfl, rfl, rfl, rfl⟩ := hij <;> exact hp (by simp [pushBytes])
  obtain ⟨t, ht, hr, ⟨-, -, -, -, hpar, -⟩, hb⟩ := hi
  have hj : (j, f) ∈
      [(Instr.pla, t.regs.p.m), (.plb, true), (.pld, false), (.plx, t.regs.p.x), (.ply, t.regs.p.x)] := by
    simp only [pushPulls, List.mem_cons, Prod.mk.injEq, List.not_mem_nil, or_false] at hij
    rw [hr]
    obtain ⟨-, rfl, rfl, -⟩ | ⟨-, rfl, rfl, -⟩ | ⟨-, rfl, rfl, -⟩ | ⟨-, rfl, rfl, -⟩ | ⟨-, rfl, rfl, -⟩ := hij <;> simp
  obtain ⟨w, -, hw, n, l, hu⟩ := pulls j t f (exec_inv h ht) hj
  have hmem : stackInMemory (bits f / 8) t := by
    rw [← pushBytes_length f v]
    exact stackInMemory_of_pushed hram hr rfl rfl hpar (by cases f <;> simp [pushBytes, pushWord])
  refine ⟨t, _, ht, hu, ?_⟩
  have hsp : moveS (s.regs.moved (-((bits f / 8 : Nat) : Int))) (bits f / 8 : Nat) = s.regs.sp :=
    moveS_back ((State.inv_iff s).mp h).1 _
  have hpc : s.regs.pc + 1 + 1 = s.regs.pc + 2 := BitVec.add_assoc _ _ _
  rw [hw hmem, low_word_of_pushed hram hr rfl rfl hb, hr, pushBytes_length, ← hsp, ← hpc]
  rfl

/-- Settles O39: `pull_after_push` for the registers; PLP finds the image of P (`loadP_image`). -/
theorem pullUndoesPush : Obligations.PullUndoesPush := by
  unfold Obligations.PullUndoesPush
  intro i j p s h hram r hi
  obtain ⟨hr, -⟩ := (State.inv_iff s).mp h
  obtain ⟨-, hx, -⟩ := (Regs.inv_iff _).mp hr
  simp only [List.mem_cons, Prod.mk.injEq, List.not_mem_nil, or_false] at hi
  obtain ⟨rfl, rfl, rfl⟩ | ⟨rfl, rfl, rfl⟩ | ⟨rfl, rfl, rfl⟩ | ⟨rfl, rfl, rfl⟩ | ⟨rfl, rfl, rfl⟩ | ⟨rfl, rfl, rfl⟩ := hi
  case inr.inr.inr.inr.inr =>
    obtain ⟨t, ht, hrt, ⟨-, -, -, -, hpar, -⟩, hb⟩ := pushes .php s [image r.e true r.p] 0 0 0 h (by simp [r])
    obtain ⟨v, hv, n, l, hu⟩ := pullStatus t (exec_inv h ht)
    have h1 : stackByte t 1 = image r.e true r.p :=
      stackByte_of_pushed _ hram (by decide) (by simp) hrt rfl rfl hb 1 le_rfl le_rfl
    rw [hv (stackInMemory_of_pushed (m := 1) hram hrt rfl rfl hpar (by decide)), h1, hrt,
      loadP_image true fun _ => ⟨rfl, rfl⟩] at hu
    have hsp : moveS (s.regs.moved (-((1 : Nat) : Int))) (1 : Nat) = s.regs.sp := moveS_back hr 1
    have hpc : s.regs.pc + 1 + 1 = s.regs.pc + 2 := BitVec.add_assoc _ _ _
    have hall : ({ withP s.regs s.regs.p with
        sp := moveS (s.regs.moved (-((1 : Nat) : Int))) (1 : Nat), pc := s.regs.pc + 1 + 1 } : Regs) =
        { s.regs with pc := s.regs.pc + 2 } := by
      rw [hsp, hpc, withP_self hr]
    exact ⟨t, _, ht, hu, hall⟩
  · obtain ⟨t, u, ht, hu, hregs⟩ := pull_after_push (i := .pha) h hram (.head _)
    exact ⟨t, u, ht, hu, hregs.trans (by simp [pulledRegs, mix_low, acc, r])⟩
  · obtain ⟨t, u, ht, hu, hregs⟩ := pull_after_push (i := .phx) h hram (.tail _ (.head _))
    exact ⟨t, u, ht, hu, hregs.trans (by simp [pulledRegs, low_of_hi fun e => (hx e).1, r])⟩
  · obtain ⟨t, u, ht, hu, hregs⟩ := pull_after_push (i := .phy) h hram (.tail _ (.tail _ (.head _)))
    exact ⟨t, u, ht, hu, hregs.trans (by simp [pulledRegs, low_of_hi fun e => (hx e).2, r])⟩
  · obtain ⟨t, u, ht, hu, hregs⟩ := pull_after_push (i := .phb) h hram (.tail _ (.tail _ (.tail _ (.head _))))
    exact ⟨t, u, ht, hu, hregs.trans (by simp [pulledRegs, low, r])⟩
  · obtain ⟨t, u, ht, hu, hregs⟩ := pull_after_push (i := .phd) h hram
      (.tail _ (.tail _ (.tail _ (.tail _ (.head _)))))
    exact ⟨t, u, ht, hu, hregs.trans (by simp [pulledRegs, low, r])⟩

/-- After a call of `calls`, RTS finds the address pushed. -/
theorem rts_after_push {s t : State} {v pc : Word} (h : s.inv = true) (hram : stackInRam 3 s) (ht : t.inv = true)
    (hr : t.regs = { s.regs with sp := moveS s.regs (-2), pc := pc }) (ho : sameOutside s t)
    (hb : ∀ a, t.byteAt a = pushed 0 (pushWord v) s a) :
    ∃ u, exec .rts t = .next u ∧ u.regs = { s.regs with pc := v + 1 } := by
  obtain ⟨-, -, -, -, hpar, -⟩ := ho
  obtain ⟨a, -, -, ha, -, ⟨n, l, hu⟩, -⟩ := subroutineReturns t ht
  have hmem : stackInMemory 2 t := stackInMemory_of_pushed hram hr rfl rfl hpar (by decide)
  have hsp : moveS (s.regs.moved (-((2 : Nat) : Int))) (2 : Nat) = s.regs.sp := moveS_back ((State.inv_iff s).mp h).1 2
  refine ⟨_, hu, ?_⟩
  rw [ha hmem, pulled_word (bs := []) hram (by decide) (by simp) hr rfl rfl hb, hr]
  exact congrArg (fun p => ({ s.regs with sp := p, pc := v + 1 } : Regs)) hsp

/-- Settles O44: the return of `subroutineReturns` finds what the call of `calls` pushed. -/
theorem returnUndoesCall : Obligations.ReturnUndoesCall := by
  unfold Obligations.ReturnUndoesCall
  intro s t a al h hram
  obtain ⟨hjsr, ⟨_, hind, -⟩, hjsl⟩ := calls s a al h
  have h3 : s.regs.pc + 2 + 1 = s.regs.pc + 3 := BitVec.add_assoc _ _ _
  have h4 : s.regs.pc + 3 + 1 = s.regs.pc + 4 := BitVec.add_assoc _ _ _
  refine ⟨fun ht => ?_, fun ht => ?_⟩
  · rw [← h3]
    obtain ht | ht := ht
    · obtain ⟨_, ht', hr, ho, hb⟩ := hjsr
      cases Host.Outcome.next.inj (ht.symm.trans ht')
      exact rts_after_push h hram (exec_inv h ht) hr ho hb
    · obtain ⟨_, ht', hr, ho, hb⟩ := hind
      cases Host.Outcome.next.inj (ht.symm.trans ht')
      exact rts_after_push h hram (exec_inv h ht) hr ho hb
  · obtain ⟨_, ht', hr, ⟨-, -, -, -, hpar, -⟩, hb⟩ := hjsl
    cases Host.Outcome.next.inj (ht.symm.trans ht')
    obtain ⟨-, b, k, -, hbk, -, n, l, hu⟩ := subroutineReturns t (exec_inv h ht)
    have hmem : stackInMemory 3 t := stackInMemory_of_pushed hram hr rfl rfl hpar le_rfl
    obtain ⟨rfl, rfl⟩ := hbk hmem
    have hsp : moveS (s.regs.moved (-((3 : Nat) : Int))) (3 : Nat) = s.regs.sp :=
      moveS_back ((State.inv_iff s).mp h).1 3
    have hbank : stackByte t 3 = s.regs.pbr :=
      stackByte_of_pushed (s.regs.pbr :: pushWord (s.regs.pc + 3)) hram (by decide) le_rfl hr rfl rfl hb 3 (by decide)
        le_rfl
    refine ⟨_, hu, ?_⟩
    rw [pulled_word (bs := [s.regs.pbr]) hram (by decide) le_rfl hr rfl rfl hb, hbank, hr, h4]
    exact congrArg (fun p => ({ s.regs with sp := p, pc := s.regs.pc + 4 } : Regs)) hsp

end Sys2Proof
end

section
/-! PROOFS. Interrupts (R352, R355, R357): what an entry leaves, what RTI loads, that RTI undoes an entry, and the order
of a boundary with the entries of NMI and IRQ. -/

namespace Sys2Proof.Machine

open Sys2Proof.Spec

theorem pushFrame_eq (ret : Word) (b : Bool) (s : State) : pushFrame ret b s = pushAll (frame s.regs ret b) s := by
  have hp : (push16 ret (if s.regs.e then s else push8 s.regs.pbr s)).regs.p = s.regs.p := by
    cases s.regs.e <;> simp
  have he : (push16 ret (if s.regs.e then s else push8 s.regs.pbr s)).regs.e = s.regs.e := by
    cases h : s.regs.e <;> simp [h]
  rw [pushFrame, hp, he, pack_eq_image, frame]
  cases s.regs.e <;> rfl

theorem frame_length (r : Regs) (ret : Word) (b : Bool) : (frame r ret b).length = if r.e then 3 else 4 := by
  cases h : r.e <;> simp [frame, h, pushWord]

theorem isMemory_congr {s u : State} (h : u.params = s.params) (a : Addr) : isMemory u a = isMemory s a := by
  rw [isMemory, kindAt_congr h, isMemory]

/-- Once the frame is pushed, the rest of an entry: I, D, PBR, and PC from the vector. -/
theorem enters_of_frame {s u : State} {vec ret : Word} {b : Bool}
    (hregs : u.regs = s.regs.moved (if s.regs.e then -3 else -4)) (ho : sameOutside s u)
    (hbytes : ∀ a, u.byteAt a = pushed 0 (frame s.regs ret b) s a) {v : Word × State}
    (hv : read16 (EA.b0 vec) (u.onRegs Regs.enterHandler) = v) :
    enters vec ret b s { v.2.onRegs (Regs.jump v.1) with run := .running } := by
  subst hv
  obtain ⟨-, hirq, hnmi, hreset, hpar, hin⟩ := ho
  have hkind (a : Addr) : isMemory (u.onRegs Regs.enterHandler) a = isMemory s a := isMemory_congr hpar a
  obtain ⟨n, l, hread⟩ := read16_frame (EA.b0 vec) (u.onRegs Regs.enterHandler)
  rw [hread]
  refine ⟨?_, fun h0 h1 => ?_, ⟨rfl, hirq, hnmi, hreset, hpar, hin⟩, hbytes⟩
  · simp only [State.onRegs, hregs]
    rfl
  · refine (read16_value ?_ ?_).trans ?_
    · rwa [b0_byteAddr_zero, hkind]
    · rwa [b0_byteAddr_one, hkind]
    · rw [b0_byteAddr_zero, b0_byteAddr_one]
      rfl

/-- The vectors (R352). -/
theorem vectorAddr_eq (e : Bool) :
    vectorAddr .brk e = (if e then 0xFFFE#16 else 0xFFE6#16) ∧
      vectorAddr .cop e = (if e then 0xFFF4#16 else 0xFFE4#16) ∧
      vectorAddr .nmi e = (if e then 0xFFFA#16 else 0xFFEA#16) ∧
      vectorAddr .irq e = (if e then 0xFFFE#16 else 0xFFEE#16) := by
  cases e <;> exact ⟨rfl, rfl, rfl, rfl⟩

/-- An entry is as the statements say it. -/
theorem enters_enter (src : IntSource) (ret : Word) (b : Bool) {s : State} (h : s.inv = true) :
    enters (vectorAddr src s.regs.e) ret b s (enter src ret b s) := by
  obtain ⟨hr, -⟩ := (State.inv_iff s).mp h
  have hl : (frame s.regs ret b).length ≤ 256 := by
    rw [frame_length]
    split <;> decide
  have hregs : (pushAll (frame s.regs ret b) s).regs = s.regs.moved (if s.regs.e then -3 else -4) := by
    rw [pushAll_regs _ hr, frame_length]
    cases s.regs.e <;> rfl
  have he : ((pushFrame ret b s).onRegs Regs.enterHandler).regs.e = s.regs.e := by
    rw [pushFrame_eq, State.onRegs_regs, hregs]
    rfl
  rw [enter, he, pushFrame_eq]
  exact enters_of_frame hregs (pushAll_outside _ s).1 (pushAll_byteAt _ h hl) rfl

/-! ### RTI -/

/-- `t` is `s` with registers `r`, but for the count of draws and the device log. -/
def ReadsTo (s : State) (r : Regs) (t : State) : Prop := ∃ n l, t = { s with regs := r, draws := n, deviceLog := l }

theorem ReadsTo.regs {s t : State} {r : Regs} (h : ReadsTo s r t) : t.regs = r := by
  obtain ⟨_, _, rfl⟩ := h
  rfl

theorem ReadsTo.trans {s t u : State} {r r' : Regs} (h : ReadsTo s r t) (h' : ReadsTo t r' u) : ReadsTo s r' u := by
  obtain ⟨_, _, rfl⟩ := h
  obtain ⟨n, l, rfl⟩ := h'
  exact ⟨n, l, rfl⟩

theorem ReadsTo.onRegs {s t : State} {r : Regs} (h : ReadsTo s r t) (f : Regs → Regs) :
    ReadsTo s (f r) (t.onRegs f) := by
  obtain ⟨n, l, rfl⟩ := h
  exact ⟨n, l, rfl⟩

/-- The stack above the new S, as it stands in the old state. -/
theorem ReadsTo.stack {s t : State} {r : Regs} (h : ReadsTo s r t) {d : Nat} (hsp : r.sp = moveS s.regs d)
    (he : r.e = s.regs.e) :
    (∀ k : Nat, stackByte t k = stackByte s (d + k)) ∧ ∀ n, stackInMemory (d + n) s → stackInMemory n t := by
  have hr := h.regs
  obtain ⟨n, l, ht⟩ := h
  have hm : t.mem = s.mem := by rw [ht]
  have hp : t.params = s.params := by rw [ht]
  rw [← hr] at hsp he
  exact ⟨fun k => (stack_above hsp he hm hp k).1, fun n => stackInMemory_above hsp he hm hp⟩

/-- What RTI does after it has loaded P. -/
def pullReturn (s : State) : State :=
  let a := pull16 s
  let t := a.2.onRegs (Regs.jump a.1)
  if t.regs.e then t
  else
    let b := pull8 t
    b.2.onRegs fun r => { r with pbr := b.1 }

theorem returnFromInterrupt_eq (s : State) :
    returnFromInterrupt s = pullReturn ((pull8 s).2.onRegs (Regs.unpackP (pull8 s).1)) := rfl

/-- PC, and PBR in native mode, from the stack. -/
theorem pullReturn_spec {s : State} (h : s.regs.inv = true) : ∃ (a : Word) (k : Byte),
    (stackInMemory (if s.regs.e then 2 else 3) s →
      a = word (stackByte s 2) (stackByte s 1) ∧ (s.regs.e = false → k = stackByte s 3)) ∧
    ReadsTo s { s.regs with
      sp := moveS s.regs (if s.regs.e then 2 else 3), pc := a, pbr := if s.regs.e then s.regs.pbr else k }
      (pullReturn s) := by
  have ht : ReadsTo s ((s.regs.moved 2).jump (pull16 s).1) ((pull16 s).2.onRegs (Regs.jump (pull16 s).1)) :=
    ReadsTo.onRegs (pull16_state h) _
  rw [pullReturn]
  generalize (pull16 s).2.onRegs (Regs.jump (pull16 s).1) = t at ht
  have he : t.regs.e = s.regs.e := by rw [ht.regs]; rfl
  simp only [he]
  by_cases hs : s.regs.e = true
  · simp only [if_pos hs]
    exact ⟨(pull16 s).1, 0x00#8, fun hm => ⟨pull16_value h hm, fun hf => absurd hs (by simp [hf])⟩, ht⟩
  · simp only [if_neg hs]
    have hinv : t.regs.inv = true := ht.regs ▸ Regs.moved_inv 2 h
    obtain ⟨hbyte, hmem⟩ := ht.stack (d := 2) rfl rfl
    have hu := ht.trans (ReadsTo.onRegs (pull8_state hinv) fun r => { r with pbr := (pull8 t).1 })
    have hregs : ({ t.regs.moved 1 with pbr := (pull8 t).1 } : Regs) =
        { s.regs with sp := moveS s.regs 3, pc := (pull16 s).1, pbr := (pull8 t).1 } := by
      rw [ht.regs]
      exact congrArg (fun p => ({ s.regs with sp := p, pc := (pull16 s).1, pbr := (pull8 t).1 } : Regs))
        (moveS_moved s.regs 2 1)
    refine ⟨(pull16 s).1, (pull8 t).1, fun hm => ⟨pull16_value h (stackInMemory_mono hm (by decide)), fun _ => ?_⟩, ?_⟩
    · exact (pull8_value hinv (hmem 1 hm 1 le_rfl le_rfl)).trans (hbyte 1)
    · rwa [hregs] at hu

/-- What RTI leaves. -/
theorem returnFromInterrupt_spec {s : State} (h : s.regs.inv = true) : ∃ (v : Byte) (a : Word) (k : Byte),
    (stackInMemory (if s.regs.e then 3 else 4) s →
      v = stackByte s 1 ∧ a = word (stackByte s 3) (stackByte s 2) ∧ (s.regs.e = false → k = stackByte s 4)) ∧
    ReadsTo s { withP s.regs (loadP s.regs.e v s.regs.p) with
      sp := moveS s.regs (if s.regs.e then 3 else 4), pc := a, pbr := if s.regs.e then s.regs.pbr else k }
      (returnFromInterrupt s) := by
  have ht := ReadsTo.onRegs (pull8_state h) (Regs.unpackP (pull8 s).1)
  rw [returnFromInterrupt_eq]
  rw [unpackP_eq (Regs.moved_inv 1 h)] at ht
  have hinv : ((pull8 s).2.onRegs (Regs.unpackP (pull8 s).1)).regs.inv = true :=
    Regs.unpackP_inv _ (ReadsTo.regs (pull8_state h) ▸ Regs.moved_inv 1 h)
  generalize (pull8 s).2.onRegs (Regs.unpackP (pull8 s).1) = t at ht hinv
  have he : t.regs.e = s.regs.e := by rw [ht.regs]; rfl
  obtain ⟨hbyte, hmem⟩ := ht.stack (d := 1) rfl rfl
  obtain ⟨a, k, hv, hr⟩ := pullReturn_spec hinv
  have hsp : moveS t.regs (if t.regs.e then 2 else 3) = moveS s.regs (if s.regs.e then 3 else 4) := by
    rw [he, ht.regs]
    refine (moveS_moved s.regs 1 _).trans ?_
    cases s.regs.e <;> rfl
  refine ⟨(pull8 s).1, a, k, fun hm => ⟨pull8_value h (hm 1 le_rfl (by split <;> decide)), ?_⟩, ?_⟩
  · rw [he, hbyte 1, hbyte 2, hbyte 3] at hv
    refine hv (hmem _ ?_)
    cases hs : s.regs.e <;> simpa [hs] using hm
  · have := ht.trans hr
    rw [hsp, he] at this
    rw [ht.regs] at this
    exact this

theorem frame_native {r : Regs} (he : r.e = false) (ret : Word) (b b' : Bool) : frame r ret b = frame r ret b' := by
  simp [frame, he, image]

/-- COP's entry: its break bit is a draw in emulation mode and no bit of the image in native mode. -/
theorem enters_cop {s : State} (h : s.inv = true) :
    enters (vectorAddr .cop s.regs.e) (s.regs.pc + 2) (Config.freeBit s.draws) s (copOp s) := by
  by_cases he : s.regs.e = true
  · have hen := enters_enter .cop (s.regs.pc + 2) (Config.freeBit s.draws) (s := s.countDraw) h
    obtain ⟨hregs, hpc, hout, hbytes⟩ := hen
    rw [copOp, if_pos he]
    exact ⟨hregs, hpc, hout, fun a => (hbytes a).trans (pushed_congr (u := s.countDraw) (s := s) rfl rfl rfl 0 _ a)⟩
  · have hen := enters_enter .cop (s.regs.pc + 2) true h
    rw [enters, frame_native (by simpa using he) _ true (Config.freeBit s.draws), ← enters] at hen
    rw [copOp, if_neg he]
    exact hen

/-- The frame in RAM, read from S up. -/
theorem frame_above {s t : State} {ret : Word} {b : Bool} (hram : stackInRam 4 s)
    (hsp : t.regs.sp = moveS s.regs (-((frame s.regs ret b).length : Int))) (he : t.regs.e = s.regs.e)
    (hb : ∀ a, t.byteAt a = pushed 0 (frame s.regs ret b) s a) :
    stackByte t 1 = image s.regs.e b s.regs.p ∧ word (stackByte t 3) (stackByte t 2) = ret ∧
      (s.regs.e = false → stackByte t 4 = s.regs.pbr) := by
  by_cases hs : s.regs.e = true
  · have hf : frame s.regs ret b = [hi ret, lo ret, image s.regs.e b s.regs.p] := by simp [frame, hs, pushWord]
    rw [hf] at hsp hb
    have hbyte := stackByte_of_pushed _ hram (by decide) (by simp) rfl hsp he hb
    refine ⟨hbyte 1 le_rfl (by simp), ?_, fun h => absurd hs (by simp [h])⟩
    rw [hbyte 2 (by decide) (by simp), hbyte 3 (by decide) (by simp)]
    exact word_hi_lo ret
  · have hf : frame s.regs ret b = [s.regs.pbr, hi ret, lo ret, image s.regs.e b s.regs.p] := by
      simp [frame, hs, pushWord]
    rw [hf] at hsp hb
    have hbyte := stackByte_of_pushed _ hram (by decide) (by simp) rfl hsp he hb
    refine ⟨hbyte 1 le_rfl (by simp), ?_, fun _ => hbyte 4 (by decide) (by simp)⟩
    rw [hbyte 2 (by decide) (by simp), hbyte 3 (by decide) (by simp)]
    exact word_hi_lo ret

/-- A register file whose S stands `d` away from that of another moves from there. -/
theorem moveS_of_sp {r r' : Regs} {d : Int} (hsp : r'.sp = moveS r d) (he : r'.e = r.e) (d' : Int) :
    moveS r' d' = moveS r (d + d') := by
  rw [← moveS_moved]
  simp only [moveS, Regs.moved_e, he, hsp]
  rfl

/-- RTI in the state an entry left on a stack in RAM. -/
theorem rti_after_entry {s t : State} {vec ret : Word} {b : Bool} (h : s.inv = true) (hram : stackInRam 4 s)
    (ht : t.inv = true) (hen : enters vec ret b s t) :
    ∃ u, exec .rti t = .next u ∧
      u.regs = { s.regs with pc := ret, pbr := if s.regs.e then 0x00#8 else s.regs.pbr } := by
  obtain ⟨hr, -⟩ := (State.inv_iff s).mp h
  obtain ⟨htr, -⟩ := (State.inv_iff t).mp ht
  obtain ⟨hregs, -, ⟨-, -, -, -, hpar, -⟩, hb⟩ := hen
  obtain ⟨v, a, k, hv, hu⟩ := returnFromInterrupt_spec htr
  refine ⟨_, rfl, ?_⟩
  have hu := hu.regs
  have hl := frame_length s.regs ret b
  have he : t.regs.e = s.regs.e := by rw [hregs]
  have hsp : t.regs.sp = moveS s.regs (-((frame s.regs ret b).length : Int)) := by
    rw [hregs, hl]
    cases s.regs.e <;> rfl
  have hle : (frame s.regs ret b).length ≤ 4 := by rw [hl]; split <;> decide
  have hmem : stackInMemory (if t.regs.e then 3 else 4) t := by
    rw [he, ← hl]
    exact stackInMemory_of_pushed hram rfl hsp he hpar hle
  obtain ⟨rfl, rfl, hk⟩ := hv hmem
  obtain ⟨himage, hret, hpbr⟩ := frame_above hram hsp he hb
  have hp : loadP t.regs.e (stackByte t 1) t.regs.p = s.regs.p := by
    rw [himage, he]
    exact loadP_image b fun _ => by rw [hregs]; exact ⟨rfl, rfl⟩
  have hsp0 : moveS t.regs (if t.regs.e then 3 else 4) = s.regs.sp := by
    rw [he, moveS_of_sp hsp he, ← moveS_zero hr, hl]
    cases s.regs.e <;> rfl
  have hpbr' : (if t.regs.e then t.regs.pbr else k) = if s.regs.e then 0x00#8 else s.regs.pbr := by
    rw [he]
    split
    · rw [hregs]
    · next hs => rw [hk (by rw [he]; simpa using hs), hpbr (by simpa using hs)]
  rw [hp, hret, hsp0, hpbr'] at hu
  have hw := withP_self hr
  rw [hu, hregs]
  exact congrArg (fun r : Regs => { r with
    sp := s.regs.sp, pc := ret, pbr := if s.regs.e then 0x00#8 else s.regs.pbr }) hw

end Sys2Proof.Machine

namespace Sys2Proof

open Sys2Proof.Machine Sys2Proof.Spec

/-- Settles O40: `enters_enter` at the vectors of BRK and COP. -/
theorem softwareInterrupts : Obligations.SoftwareInterrupts := by
  unfold Obligations.SoftwareInterrupts
  intro s x h
  obtain ⟨hbrk, hcop, -⟩ := vectorAddr_eq s.regs.e
  refine ⟨⟨_, rfl, ?_⟩, ⟨_, rfl, ?_⟩⟩
  · exact hbrk ▸ enters_enter .brk (s.regs.pc + 2) true h
  · exact hcop ▸ enters_cop h

/-- Settles O41. -/
theorem returnFromInterrupt : Obligations.ReturnFromInterrupt := by
  unfold Obligations.ReturnFromInterrupt
  intro s h
  obtain ⟨v, a, k, hv, n, l, hu⟩ := returnFromInterrupt_spec ((State.inv_iff s).mp h).1
  exact ⟨v, a, k, hv, n, l, congrArg Host.Outcome.next hu⟩

/-- Settles O42: each of the four ways in is an entry, which `rti_after_entry` undoes. -/
theorem rtiUndoesEntry : Obligations.RtiUndoesEntry := by
  unfold Obligations.RtiUndoesEntry
  intro s t x ret h hram ht
  obtain ⟨ht, rfl⟩ | ⟨ht, rfl⟩ | ⟨rfl, rfl⟩ | ⟨rfl, rfl⟩ := ht
  · have hinv := exec_inv h ht
    cases Host.Outcome.next.inj ht
    exact rti_after_entry h hram hinv (enters_enter .brk _ true h)
  · have hinv := exec_inv h ht
    cases Host.Outcome.next.inj ht
    exact rti_after_entry h hram hinv (enters_cop h)
  · exact rti_after_entry (s := { s with nmiPending := false }) h hram (takeNmi_inv h) (enters_enter .nmi _ false h)
  · exact rti_after_entry h hram (takeIrq_inv h) (enters_enter .irq _ false h)

/-- Settles O7: `boundary` branch by branch, with `enters_enter` for the interrupts and `step_of_decode` for the
instruction. -/
theorem boundaryOrder : Obligations.BoundaryOrder := by
  unfold Obligations.BoundaryOrder
  rintro s t h rfl
  obtain ⟨hregs, hmem, -⟩ := takeInput_frame s
  have ht : (takeInput s).inv = true := by
    rw [State.inv, hregs, hmem]
    exact h
  obtain ⟨-, -, hnmi, hirq⟩ := vectorAddr_eq (takeInput s).regs.e
  refine ⟨fun hr => step_of_done (boundary_of_reset hr), fun hr =>
    ⟨fun hs => step_of_done (boundary_of_stopped hr hs), fun hs =>
      ⟨fun hn => ⟨_, step_of_done (boundary_of_nmi hr hs hn), ?_⟩,
      fun hn => ⟨fun hq hi => ⟨_, step_of_done (boundary_of_irq hr hs hn hq hi), ?_⟩,
        fun hq hw => step_of_done (boundary_of_waiting hr hn hq hw),
        fun n i hq hi hm hd => step_of_decode (boundary_of_execute hr hs hn hq hi) hm hd⟩⟩⟩⟩
  · exact hnmi ▸ enters_enter .nmi (takeInput s).regs.pc false (s := { takeInput s with nmiPending := false }) ht
  · exact hirq ▸ enters_enter .irq (takeInput s).regs.pc false ht

end Sys2Proof
end

section
/-! PROOFS. Block moves (R340 to R343): one pass, the whole loop, and that the passes one by one make the whole. -/

namespace Sys2Proof.Machine

open Sys2Proof.Spec

theorem exec_blockMove (negative : Bool) (dst src : Byte) (s : State) :
    exec (if negative then .mvn dst src else .mvp dst src) s = .next (blockMove negative dst src s) := by
  cases negative <;> rfl

theorem stepIndex_eq (p : Params) (negative f : Bool) (v : Word) :
    stepIndex (countsDown p.blockMoveDirection negative) (Width.ofFlag f) v = passed p negative f 1 v := by
  rw [stepIndex, passed, low_eq]
  cases p.blockMoveDirection <;> cases negative <;> rfl

theorem low_low_add (f : Bool) (v d : Word) : low f (low f v + d) = low f (v + d) := by
  cases f
  · rfl
  · have hadd (a b : Word) : lo (a + b) = lo a + lo b := BitVec.setWidth_add a b (by decide)
    simp [low, hadd]

/-- The steps of a pass and those of the passes after it. -/
theorem passed_passed (p : Params) (negative f : Bool) (n : Nat) (v : Word) :
    passed p negative f n (passed p negative f 1 v) = passed p negative f (n + 1) v := by
  have hn : BitVec.ofNat 16 (n + 1) = BitVec.ofNat 16 n + 1#16 := BitVec.ofNat_add n 1
  rw [passed, passed, passed, hn]
  split
  · rw [BitVec.sub_eq_add_neg, low_low_add]
    congr 1
    ring
  · rw [low_low_add]
    congr 1
    ring

/-! ### One pass -/

section
variable (down : Bool) (dst src : Byte) (s : State)

theorem blockPass_regs : (blockPass down dst src s).regs =
    { s.regs with dbr := dst, x := stepIndex down s.regs.wX s.regs.x, y := stepIndex down s.regs.wX s.regs.y } := by
  simp [blockPass, Regs.wX]

theorem blockPass_outside : sameOutside s (blockPass down dst src s) := by
  simp [blockPass, sameOutside]

theorem blockPass_params : (blockPass down dst src s).params = s.params := by
  obtain ⟨-, -, -, -, hp, -⟩ := blockPass_outside down dst src s
  exact hp

/-- The byte a pass moves, and the state its read leaves. -/
def passRead : Byte × State := readByte (bankAddr src s.regs.x) (s.onRegs fun g => { g with dbr := dst })

theorem passRead_regs : (passRead dst src s).2.regs = { s.regs with dbr := dst } := readByte_regs _ _

theorem passRead_mem : (passRead dst src s).2.mem = s.mem := readByte_mem _ _

theorem passRead_kindAt (a : Addr) : (passRead dst src s).2.kindAt a = s.kindAt a :=
  kindAt_congr ((readByte_params _ _).trans rfl) a

theorem blockPass_byteAt (h : s.mem.wf = true) (a : Addr) : (blockPass down dst src s).byteAt a =
    if a = bankAddr dst s.regs.y ∧ s.kindAt a = .ram then (passRead dst src s).1 else s.byteAt a := by
  have hy : (passRead dst src s).2.regs.y = s.regs.y := by rw [passRead_regs]
  have hb : (blockPass down dst src s).byteAt a =
    (writeByte (bankAddr dst (passRead dst src s).2.regs.y) (passRead dst src s).1 (passRead dst src s).2).byteAt a :=
      rfl
  rw [hb, hy, writeByte_byteAt _ _ (wf_of_mem h (passRead_mem dst src s)), passRead_kindAt,
    byteAt_congr (passRead_mem dst src s)]
  by_cases ha : a = bankAddr dst s.regs.y
  · rw [ha]
  · simp only [ha, false_and]

/-- Where the source is in RAM or ROM a pass moves its byte. -/
theorem passRead_value (h : isMemory s (bankAddr src s.regs.x) = true) :
    (passRead dst src s).1 = s.byteAt (bankAddr src s.regs.x) := by
  have hk : (s.onRegs fun g => { g with dbr := dst }).kindAt (bankAddr src s.regs.x) = .ram ∨
      (s.onRegs fun g => { g with dbr := dst }).kindAt (bankAddr src s.regs.x) = .rom := isMemory_iff.mp h
  rw [passRead, readByte_memory hk]
  rfl

end

/-! ### The whole loop -/

theorem sameOutside_trans {s t u : State} (h : sameOutside s t) (h' : sameOutside t u) : sameOutside s u := by
  obtain ⟨h1, h2, h3, h4, h5, h6⟩ := h
  obtain ⟨g1, g2, g3, g4, g5, g6⟩ := h'
  exact ⟨g1.trans h1, g2.trans h2, g3.trans h3, g4.trans h4, g5.trans h5, g6.trans h6⟩

theorem blockCount_params (s : State) : (blockCount s).params = s.params := rfl

theorem blockCount_regs (s : State) : (blockCount s).regs = { s.regs with c := s.regs.c - 1 } := rfl

theorem blockFinish_regs (s : State) : (blockFinish s).regs = { s.regs with
    c := if s.params.blockMoveFinalC = .zero then 0x0000#16 else 0xFFFF#16, pc := s.regs.pc + 3 } := by
  cases h : s.params.blockMoveFinalC <;> simp [blockFinish, Regs.advance, h]


/-- A pass in the direction the parameter gives, in the words of the statements. -/
theorem blockPass_passed (negative : Bool) (dst src : Byte) (s : State) :
    (blockPass (countsDown s.params.blockMoveDirection negative) dst src s).regs = { s.regs with
      dbr := dst
      x := passed s.params negative s.regs.p.x 1 s.regs.x
      y := passed s.params negative s.regs.p.x 1 s.regs.y } := by
  rw [blockPass_regs]
  simp only [Regs.wX, stepIndex_eq]

theorem blockLoop_regs (negative : Bool) (dst src : Byte) (n : Nat) (s : State) :
    sameOutside s (blockLoop (countsDown s.params.blockMoveDirection negative) dst src n s) ∧
    (blockLoop (countsDown s.params.blockMoveDirection negative) dst src n s).regs = { s.regs with
      dbr := dst
      x := passed s.params negative s.regs.p.x (n + 1) s.regs.x
      y := passed s.params negative s.regs.p.x (n + 1) s.regs.y
      c := if s.params.blockMoveFinalC = .zero then 0x0000#16 else 0xFFFF#16
      pc := s.regs.pc + 3 } := by
  induction n generalizing s with
  | zero =>
    refine ⟨blockPass_outside (countsDown s.params.blockMoveDirection negative) dst src s, ?_⟩
    rw [blockLoop, blockFinish_regs, blockPass_passed, blockPass_params]
  | succ n ih =>
    have hr := blockPass_passed negative dst src s
    have hp := blockPass_params (countsDown s.params.blockMoveDirection negative) dst src s
    obtain ⟨ho, hregs⟩ := ih (blockCount (blockPass (countsDown s.params.blockMoveDirection negative) dst src s))
    simp only [blockCount_params, hp] at ho hregs
    refine ⟨sameOutside_trans (blockPass_outside (countsDown s.params.blockMoveDirection negative) dst src s) ho, ?_⟩
    rw [blockLoop, hregs, blockCount_regs, hr]
    simp only [passed_passed]

/-! ### Passes one by one -/

/-- The state with the parameter at its other setting. -/
def perPass (u : State) : State := { u with params := { u.params with blockMoveInterruptible := .perByte } }

theorem readByte_perPass (a : Addr) (s : State) :
    readByte a (perPass s) = ((readByte a s).1, perPass (readByte a s).2) := by
  have hk : (perPass s).kindAt a = s.kindAt a := rfl
  unfold readByte
  rw [hk]
  cases s.kindAt a <;> rfl

theorem writeByte_perPass (a : Addr) (v : Byte) (s : State) :
    writeByte a v (perPass s) = perPass (writeByte a v s) := by
  have hk : (perPass s).kindAt a = s.kindAt a := rfl
  unfold writeByte
  rw [hk]
  cases s.kindAt a <;> rfl

theorem blockPass_perPass (down : Bool) (dst src : Byte) (s : State) :
    blockPass down dst src (perPass s) = perPass (blockPass down dst src s) := by
  have ho (u : State) (f : Regs → Regs) : (perPass u).onRegs f = perPass (u.onRegs f) := rfl
  unfold blockPass
  simp only [ho, readByte_perPass, writeByte_perPass]
  rfl

/-- A step at that setting is one pass, then the end of the move or the count. -/
theorem blockMove_perPass (negative : Bool) (dst src : Byte) (s : State) :
    blockMove negative dst src (perPass s) = perPass
      (if s.regs.c = 0x0000#16 then blockFinish (blockPass (countsDown s.params.blockMoveDirection negative) dst src s)
        else blockCount (blockPass (countsDown s.params.blockMoveDirection negative) dst src s)) := by
  have h : blockMove negative dst src (perPass s) = if s.regs.c = 0x0000#16 then
      blockFinish (blockPass (countsDown s.params.blockMoveDirection negative) dst src (perPass s))
      else blockCount (blockPass (countsDown s.params.blockMoveDirection negative) dst src (perPass s)) := rfl
  rw [h, blockPass_perPass]
  split <;> rfl

/-- The passes of a loop, each a step. -/
theorem repeated_perPass (negative : Bool) (dst src : Byte) (n : Nat) (s : State) (hn : s.regs.c.toNat = n) :
    repeated (if negative then .mvn dst src else .mvp dst src) (n + 1) (perPass s) =
      .next (perPass (blockLoop (countsDown s.params.blockMoveDirection negative) dst src n s)) := by
  induction n generalizing s with
  | zero =>
    have hc : s.regs.c = 0x0000#16 := BitVec.eq_of_toNat_eq hn
    rw [repeated, exec_blockMove, blockMove_perPass, if_pos hc]
    rfl
  | succ n ih =>
    have hc : s.regs.c ≠ 0x0000#16 := fun h => by simp [h] at hn
    have hcn :
        (blockCount (blockPass (countsDown s.params.blockMoveDirection negative) dst src s)).regs.c.toNat = n := by
      rw [blockCount_regs, blockPass_regs]
      bv_omega
    have := ih _ hcn
    rw [blockCount_params, blockPass_params] at this
    rw [repeated, exec_blockMove, blockMove_perPass, if_neg hc]
    exact this

end Sys2Proof.Machine

namespace Sys2Proof

open Sys2Proof.Machine Sys2Proof.Spec

/-- Settles O48: one `blockPass`, then C counts or the move ends. -/
theorem blockMovePass : Obligations.BlockMovePass := by
  unfold Obligations.BlockMovePass
  intro s negative dst src hwf hper i r last
  refine ⟨(passRead dst src s).1, passRead_value dst src s, ?_⟩
  have hregs := blockPass_passed negative dst src s
  have ho := blockPass_outside (countsDown s.params.blockMoveDirection negative) dst src s
  have hb := blockPass_byteAt (countsDown s.params.blockMoveDirection negative) dst src s hwf
  have he := exec_blockMove negative dst src s
  rw [blockMove, hper] at he
  by_cases hc : s.regs.c = 0x0000#16
  · simp only [last, r, hc, decide_true, if_true]
    simp only [if_pos hc] at he
    refine ⟨_, he, ?_, ho, hb⟩
    rw [blockFinish_regs, hregs, blockPass_params]
  · simp only [last, r, hc, decide_false, Bool.false_eq_true, if_false]
    simp only [if_neg hc] at he
    refine ⟨_, he, ?_, ho, hb⟩
    rw [blockCount_regs, hregs]

/-- Settles O49. -/
theorem blockMoveWhole : Obligations.BlockMoveWhole := by
  unfold Obligations.BlockMoveWhole
  intro s negative dst src hat i r n
  obtain ⟨ho, hr⟩ := blockLoop_regs negative dst src r.c.toNat s
  refine ⟨_, exec_blockMove negative dst src s, ?_⟩
  rw [blockMove, hat]
  exact ⟨ho, hr⟩

/-- Settles O50. -/
theorem blockMovePassesMakeTheWhole : Obligations.BlockMovePassesMakeTheWhole := by
  unfold Obligations.BlockMovePassesMakeTheWhole
  intro s t negative dst src hat i perByte ht
  have hm := (exec_blockMove negative dst src s).symm.trans ht
  rw [blockMove, hat] at hm
  cases Host.Outcome.next.inj hm
  exact repeated_perPass negative dst src _ s rfl

end Sys2Proof
end

section
/-! PROOFS. Byte order, wide accesses and the addresses of the modes, as numbers (R60 to R66, R121 to R139, R150). -/

namespace Sys2Proof.Machine

open Sys2Proof.Spec

/-! ### Instruction bytes (R94) -/

theorem mnemonic_of_banks {i : Instr} {dst src : Byte} (h : i.coding.operands = .banks dst src) :
    i.mnemonic ∈ [.mvn, .mvp] := by
  cases i <;> cases h <;> simp [Instr.mnemonic, Instr.coding]

theorem operandNumber_of_word {i : Instr} {a : Word} (h : i.coding.operands = .word a) :
    operandNumber i = some a.toNat := by
  cases i <;> cases h <;> rfl

theorem operandNumber_of_long {i : Instr} {a : Addr} (h : i.coding.operands = .long a) :
    operandNumber i = some a.toNat := by
  cases i <;> cases h <;> rfl

theorem operandNumber_of_imm {i : Instr} {v : Word} (h : i.coding.operands = .immM v ∨ i.coding.operands = .immX v) :
    operandNumber i = some v.toNat := by
  obtain h | h := h <;> cases i <;> cases h <;> rfl

theorem word_toNat_eq {v : Word} {b1 b2 : Byte} (h1 : lo v = b1) (h2 : hi v = b2) :
    v.toNat = b1.toNat + 256 * b2.toNat := by
  subst h1 h2
  rw [lo_toNat, hi_toNat]
  omega

/-- An operand of two bytes is the number they make, the low byte first. -/
theorem operandNumber_two {i : Instr} {m x : Bool} {b1 b2 : Byte} (hk : i.mnemonic ∉ [.mvn, .mvp])
    (h : i.coding.operands.bytes m x = [b1, b2]) : operandNumber i = some (b1.toNat + 256 * b2.toNat) := by
  cases ho : i.coding.operands with
  | none => simp [ho, OperandBytes.bytes] at h
  | byte b => simp [ho, OperandBytes.bytes] at h
  | word a =>
    simp only [ho, OperandBytes.bytes, List.cons.injEq, and_true] at h
    rw [operandNumber_of_word ho, word_toNat_eq h.1 h.2]
  | banks dst src => exact absurd (mnemonic_of_banks ho) hk
  | long a => simp [ho, OperandBytes.bytes] at h
  | immM v =>
    cases m <;> simp [ho, OperandBytes.bytes] at h
    rw [operandNumber_of_imm (.inl ho), word_toNat_eq h.1 h.2]
  | immX v =>
    cases x <;> simp [ho, OperandBytes.bytes] at h
    rw [operandNumber_of_imm (.inr ho), word_toNat_eq h.1 h.2]

/-- An operand of three bytes is the number they make, the low byte first. -/
theorem operandNumber_three {i : Instr} {m x : Bool} {b1 b2 b3 : Byte}
    (h : i.coding.operands.bytes m x = [b1, b2, b3]) :
    operandNumber i = some (b1.toNat + 256 * b2.toNat + 65536 * b3.toNat) := by
  cases ho : i.coding.operands with
  | none => simp [ho, OperandBytes.bytes] at h
  | byte b => simp [ho, OperandBytes.bytes] at h
  | word a => simp [ho, OperandBytes.bytes] at h
  | banks dst src => simp [ho, OperandBytes.bytes] at h
  | long a =>
    simp only [ho, OperandBytes.bytes, List.cons.injEq, and_true] at h
    obtain ⟨h1, h2, h3⟩ := h
    have hw := word_toNat_eq h1 h2
    rw [offsetOf_toNat] at hw
    rw [operandNumber_of_long ho, ← hw, ← h3, bankOf_toNat]
    congr 1
    omega
  | immM v => cases m <;> simp [ho, OperandBytes.bytes] at h
  | immX v => cases x <;> simp [ho, OperandBytes.bytes] at h

/-! ### Wide accesses -/

/-- The bytes a 16-bit store to RAM leaves, and that a load finds them. -/
theorem storeEA_loadEA {s : State} {ea : EA} (v : Word) (h : s.mem.wf = true) (h0 : s.kindAt (ea.byteAddr 0) = .ram)
    (h1 : s.kindAt (ea.byteAddr 1) = .ram) :
    (storeEA ea .w16 v s).byteAt (ea.byteAddr 0) = lo v ∧ (storeEA ea .w16 v s).byteAt (ea.byteAddr 1) = hi v ∧
      loadEA ea .w16 (storeEA ea .w16 v s) = (v, storeEA ea .w16 v s) ∧
      loadEA ea .w8 (storeEA ea .w16 v s) = (low true v, storeEA ea .w16 v s) := by
  have hb0 : (storeEA ea .w16 v s).byteAt (ea.byteAddr 0) = lo v := by
    simp [storeEA_byteAt ea .w16 v h, h0]
  have hb1 : (storeEA ea .w16 v s).byteAt (ea.byteAddr 1) = hi v := by
    simp [storeEA_byteAt ea .w16 v h, h1, ea.byteAddr_ne]
  have hk (a : Addr) : (storeEA ea .w16 v s).kindAt a = s.kindAt a := kindAt_congr (by simp) a
  have hk0 := (hk _).trans h0
  have hk1 := (hk _).trans h1
  refine ⟨hb0, hb1, ?_, ?_⟩
  · rw [loadEA, read16_memory (.inl hk0) (.inl hk1), hb0, hb1, word_hi_lo]
  · rw [loadEA, readByte_memory (.inl hk0), hb0]
    rfl

/-! ### Words and addresses as numbers -/

theorem lo_number (v : Word) : lo v = BitVec.ofNat 8 v.toNat := by
  apply BitVec.eq_of_toNat_eq
  rw [lo_toNat, BitVec.toNat_ofNat]

theorem hi_number (v : Word) : hi v = BitVec.ofNat 8 (v.toNat / 256) := by
  apply BitVec.eq_of_toNat_eq
  have := v.isLt
  rw [hi_toNat, BitVec.toNat_ofNat]
  omega

theorem word_number (h l : Byte) : word h l = BitVec.ofNat 16 (l.toNat + 256 * h.toNat) := by
  apply BitVec.eq_of_toNat_eq
  have := h.isLt
  have := l.isLt
  rw [word_toNat, BitVec.toNat_ofNat]
  omega

theorem bankAddr_number (b : Byte) (a : Word) : bankAddr b a = BitVec.ofNat 24 (b.toNat * 65536 + a.toNat) := by
  apply BitVec.eq_of_toNat_eq
  have := b.isLt
  have := a.isLt
  rw [bankAddr_toNat, BitVec.toNat_ofNat]
  omega

theorem addr_of_bytes (b h l : Byte) :
    bankAddr b (word h l) = BitVec.ofNat 24 (l.toNat + 256 * h.toNat + 65536 * b.toNat) := by
  rw [bankAddr_number, word_toNat]
  congr 1
  omega

theorem b0_byteAddr_number {a : Word} {n : Nat} (h : a.toNat = n % 65536) (k : Nat) :
    (EA.b0 a).byteAddr k = at16 (n + k) := by
  apply BitVec.eq_of_toNat_eq
  rw [b0_byteAddr, bankAddr_toNat, at16, BitVec.toNat_ofNat, BitVec.toNat_add, BitVec.toNat_ofNat, h]
  simp only [BitVec.toNat_ofNat]
  omega

theorem lin_byteAddr_number {a : Addr} {n : Nat} (h : a = BitVec.ofNat 24 n) (k : Nat) :
    (EA.lin a).byteAddr k = BitVec.ofNat 24 (n + k) := by
  rw [EA.byteAddr, h, BitVec.ofNat_add]

theorem page_byteAddr_number (a : Word) (k : Nat) :
    (EA.page a).byteAddr k = at16 (a.toNat / 256 * 256 + (a.toNat + k) % 256) := by
  apply BitVec.eq_of_toNat_eq
  have := a.isLt
  rw [EA.byteAddr, bankAddr_toNat, at16, BitVec.toNat_ofNat, word_toNat, hi_toNat, BitVec.toNat_add, lo_toNat]
  simp only [BitVec.toNat_ofNat]
  omega

theorem dp_toNat (r : Regs) (o : Byte) : (r.dp o).toNat = (r.dr.toNat + o.toNat) % 65536 := by
  rw [Regs.dp, BitVec.toNat_add, zext_toNat]

theorem sr_toNat (r : Regs) (o : Byte) : (r.sp + zext o).toNat = (r.sp.toNat + o.toNat) % 65536 := by
  rw [BitVec.toNat_add, zext_toNat]

theorem directIndexed_toNat (s : State) (o : Byte) (v : Word) : (s.directIndexed o v).toNat =
    if pageInForce s then (hi s.regs.dr).toNat * 256 + (o.toNat + (lo v).toNat) % 256
    else (s.regs.dr.toNat + o.toNat + v.toNat) % 65536 := by
  have hp : s.pageWraps = pageInForce s := rfl
  rw [State.directIndexed, hp]
  split
  · rw [word_toNat, BitVec.toNat_add]
  · rw [BitVec.toNat_add, BitVec.toNat_add, zext_toNat, Nat.mod_add_mod]

theorem dataAddr_number (r : Regs) (a : Word) : r.dataAddr a = BitVec.ofNat 24 (r.dbr.toNat * 65536 + a.toNat) :=
  bankAddr_number r.dbr a

theorem zextAddr_number (v : Word) : zextAddr v = BitVec.ofNat 24 v.toNat := by
  apply BitVec.eq_of_toNat_eq
  have := v.isLt
  rw [zextAddr_toNat, BitVec.toNat_ofNat]
  omega

/-- An index is added with carry into the next bank. -/
theorem add_index {a : Addr} {n : Nat} (h : a = BitVec.ofNat 24 n) (v : Word) :
    a + zextAddr v = BitVec.ofNat 24 (n + v.toNat) := by
  rw [h, zextAddr_number, BitVec.ofNat_add]

theorem addr_number (a : Addr) : a = BitVec.ofNat 24 a.toNat := (BitVec.ofNat_toNat 24 a).symm

/-- The two bytes of the pointer of `(d)`, `(d),y`, `(d,x)`. -/
theorem pointerEA_byteAddr {s : State} {a : Word} {n : Nat} (h : a.toNat = n % 65536) (hn : n < 65536) :
    [(s.pointerEA a).byteAddr 0, (s.pointerEA a).byteAddr 1] = pagePointer s n := by
  have hp : s.pageWraps = pageInForce s := rfl
  rw [Nat.mod_eq_of_lt hn] at h
  rw [State.pointerEA, hp, pagePointer]
  split
  · rw [page_byteAddr_number, page_byteAddr_number, h, Nat.add_zero, Nat.div_add_mod']
  · rw [b0_byteAddr_number (n := n) (by omega), b0_byteAddr_number (n := n) (by omega), Nat.add_zero]

/-- What a load gives where the operand's bytes lie in memory. -/
theorem loads_of_effAddr {md : MemMode} {s : State} {ea : EA} {f : Nat → Addr} (he : effAddr md s = (ea, s))
    (hf : ∀ k, ea.byteAddr k = f k) : loads md s f := by
  intro flag h0 h1 v
  have hl : loadEA ea (Width.ofFlag flag) s = (v, s) := by
    rw [← hf] at h0
    cases flag
    · have h1 := h1 rfl
      rw [← hf] at h1
      simp only [v, ← hf]
      exact read16_memory (isMemory_iff.mp h0) (isMemory_iff.mp h1)
    · simp only [v, ← hf, Width.ofFlag, loadEA, readByte_memory (isMemory_iff.mp h0), if_true]
  have hm : loadMem md (Width.ofFlag flag) s = (v, s) := by
    rw [loadMem, he]
    exact hl
  exact ⟨hm, hm⟩

/-- The pointer of `(d)`, `(d),y`, `(d,x)` where it lies in memory. -/
theorem read16_pointerEA {s : State} {a : Word} {n n1 : Nat} (h : a.toNat = n)
    (hn1 : n1 = if pageInForce s then n / 256 * 256 + (n + 1) % 256 else n + 1)
    (h0 : isMemory s (at16 n) = true) (h1 : isMemory s (at16 n1) = true) :
    read16 (s.pointerEA a) s = (word (s.byteAt (at16 n1)) (s.byteAt (at16 n)), s) := by
  have hlt : n < 65536 := h ▸ a.isLt
  have hp := pointerEA_byteAddr (s := s) (h.trans (Nat.mod_eq_of_lt hlt).symm) hlt
  rw [pagePointer, ← hn1] at hp
  simp only [List.cons.injEq, and_true] at hp
  obtain ⟨hp0, hp1⟩ := hp
  rw [read16_memory (by rw [hp0]; exact isMemory_iff.mp h0) (by rw [hp1]; exact isMemory_iff.mp h1), hp0, hp1]

/-- A mode whose effective address is linear: its loads. -/
theorem loads_of_lin {md : MemMode} {s : State} {a : Addr} {n : Nat} (he : effAddr md s = (.lin a, s))
    (ha : a = BitVec.ofNat 24 n) :
    effAddr md s = (.lin (BitVec.ofNat 24 n), s) ∧ loads md s fun k => BitVec.ofNat 24 (n + k) :=
  ⟨ha ▸ he, loads_of_effAddr he (lin_byteAddr_number ha)⟩

/-- A mode without a pointer: its addresses and its loads. -/
theorem addresses_of_effAddr {md : MemMode} {s : State} {ea : EA} {f : Nat → Addr} (he : effAddr md s = (ea, s))
    (hf : ∀ k, ea.byteAddr k = f k) :
    (∀ k, (effAddr md s).1.byteAddr k = f k) ∧ (effAddr md s).2 = s ∧ loads md s f :=
  ⟨fun k => by rw [he]; exact hf k, by rw [he], loads_of_effAddr he hf⟩

end Sys2Proof.Machine

namespace Sys2Proof

open Sys2Proof.Machine Sys2Proof.Spec

/-- Settles O56: `storeEA_loadEA`, and `storeEA_byteAt` for the other bytes. -/
theorem readAfterWrite : Obligations.ReadAfterWrite := by
  unfold Obligations.ReadAfterWrite
  intro s ea v h h0 h1 t
  obtain ⟨-, hb1, hw, hl⟩ := storeEA_loadEA v h h0 h1
  refine ⟨hw, hl, hb1, fun a ha0 ha1 => ?_, storeEA_wf ea .w16 v h⟩
  simp [t, storeEA_byteAt ea .w16 v h, ha0, ha1]

/-- Settles O55: a store and its loads by `storeEA_loadEA`, operands of the instruction stream by the format of the
encoding (`operandNumber_two`, `operandNumber_three`). -/
theorem littleEndian : Obligations.LittleEndian := by
  unfold Obligations.LittleEndian
  refine ⟨fun s a v h hram => ?_, fun b1 b2 b3 => ⟨?_, ?_⟩,
    fun m x op b1 b2 b3 rest i hk => ⟨fun hd => ?_, fun hd => ?_⟩⟩
  · intro t
    have h0 := hram 0 (by decide)
    have h2 := hram 2 (by decide)
    rw [BitVec.add_zero] at h0
    have hz : (EA.lin a).byteAddr 0 = a := BitVec.add_zero a
    obtain ⟨hb0, hb1, hw, hl⟩ := storeEA_loadEA (ea := .lin a) v h (by rwa [hz]) (hram 1 (by decide))
    rw [hz] at hb0
    have hb2 : t.byteAt (a + 2) = s.byteAt (a + 2) := by
      simp [t, storeEA_byteAt _ _ _ h, EA.byteAddr]
    have hk (b : Addr) : t.kindAt b = s.kindAt b := kindAt_congr (by simp [t]) b
    refine ⟨hb0.trans (lo_number v), hb1.trans (hi_number v), congrArg Prod.fst hw, ?_, ?_, ?_⟩
    · rw [hl]
      simp [low, word_toNat, lo_toNat]
    · have h1 : s.kindAt ((EA.lin a).byteAddr 1) = .ram := hram 1 (by decide)
      have hz1 : (EA.lin (a + 1)).byteAddr 0 = (EA.lin a).byteAddr 1 := BitVec.add_zero _
      rw [loadEA, hz1, readByte_memory (.inl ((hk _).trans h1)), hb1, word_toNat, hi_toNat]
      simp
    · rw [read24_memory (ea := .lin a) (.inl ((hk _).trans (by rwa [hz]))) (.inl ((hk _).trans (hram 1 (by decide))))
        (.inl ((hk _).trans h2)), hb1, hz, hb0, bankAddr_toNat, word_hi_lo, ← hb2, Nat.add_comm, Nat.mul_comm]
      rfl
  · rw [← word_number]
    rfl
  · rw [← addr_of_bytes]
    rfl
  · obtain ⟨-, he⟩ := encode_of_decode hd
    refine operandNumber_two (m := m) (x := x) hk (List.append_cancel_right (bs := b3 :: rest) ?_)
    exact (List.cons.inj he).2
  · obtain ⟨-, he⟩ := encode_of_decode hd
    refine operandNumber_three (m := m) (x := x) (List.append_cancel_right (bs := rest) ?_)
    exact (List.cons.inj he).2

/-- Settles O57: the address of each mode as a number, `addresses_of_effAddr` for its bytes and its loads. -/
theorem effectiveAddresses : Obligations.EffectiveAddresses := by
  unfold Obligations.EffectiveAddresses
  intro s o a al v r in16 in24 page is
  have hpage : pageInForce s = true ↔ page := by simp [pageInForce, page, r, and_assoc]
  have hx (v : Word) : (¬ page → (s.directIndexed o v).toNat = (r.dr.toNat + o.toNat + v.toNat) % 65536) ∧
      (page → (s.directIndexed o v).toNat = ((hi r.dr).toNat * 256 + (o.toNat + (lo v).toNat) % 256) % 65536) := by
    have := (hi r.dr).isLt
    rw [directIndexed_toNat]
    exact ⟨fun h => if_neg (hpage.not.mpr h), fun h => (if_pos (hpage.mpr h)).trans (Nat.mod_eq_of_lt (by omega)).symm⟩
  refine ⟨⟨rfl, rfl⟩, ⟨?_, ?_⟩, ?_, fun h => ?_, fun h => ?_, fun h => ?_, fun h => ?_, ?_, ?_, ?_, ?_, ?_, ?_⟩
  · exact Prod.ext (low_eq true v).symm rfl
  · rfl
  · exact addresses_of_effAddr rfl (b0_byteAddr_number (dp_toNat r o))
  · exact addresses_of_effAddr rfl (b0_byteAddr_number ((hx r.x).1 h))
  · exact addresses_of_effAddr rfl (b0_byteAddr_number ((hx r.y).1 h))
  · exact addresses_of_effAddr rfl (b0_byteAddr_number ((hx r.x).2 h))
  · exact addresses_of_effAddr rfl (b0_byteAddr_number ((hx r.y).2 h))
  · exact addresses_of_effAddr rfl (b0_byteAddr_number (sr_toNat r o))
  · exact addresses_of_effAddr rfl (lin_byteAddr_number (dataAddr_number r a))
  · exact addresses_of_effAddr rfl (lin_byteAddr_number (add_index (dataAddr_number r a) _))
  · exact addresses_of_effAddr rfl (lin_byteAddr_number (add_index (dataAddr_number r a) _))
  · exact addresses_of_effAddr rfl (lin_byteAddr_number (addr_number al))
  · exact addresses_of_effAddr rfl (lin_byteAddr_number (add_index (addr_number al) _))

/-- Settles O58: the pointer is read (`read16_pointerEA`, or in bank 00), then the address is linear. -/
theorem indirectAddresses : Obligations.IndirectAddresses := by
  unfold Obligations.IndirectAddresses
  intro s o p r page byte second p16 inMem is d dx sr bank
  have hpage : pageInForce s = true ↔ page := by simp [pageInForce, page, r, and_assoc]
  have hsecond (n : Nat) : second n = if pageInForce s then n / 256 * 256 + (n + 1) % 256 else n + 1 := by
    simp only [second, hpage]
  have hdx : (s.directIndexed o r.x).toNat = dx := by
    rw [directIndexed_toNat]
    exact if_congr hpage rfl rfl
  have hptr (n m : Nat) : (word (s.byteAt (at16 m)) (s.byteAt (at16 n))).toNat = byte n + 256 * byte m := by
    rw [word_toNat, Nat.add_comm, Nat.mul_comm]
  have hdata (n m : Nat) : r.dataAddr (word (s.byteAt (at16 m)) (s.byteAt (at16 n))) =
      BitVec.ofNat 24 (bank + (byte n + 256 * byte m)) := by
    rw [dataAddr_number, hptr]
  refine ⟨fun h0 h1 => ?_, fun h0 h1 => ?_, fun h0 h1 => ?_, fun h0 h1 h2 hp => ?_⟩
  · have hread := read16_pointerEA (dp_toNat r o) (hsecond d) h0 h1
    have hind := congrArg (fun p : Word × State => (EA.lin (r.dataAddr p.1), p.2)) hread
    have hindY := congrArg (fun p : Word × State => (EA.lin (r.dataAddr p.1 + zextAddr r.y), p.2)) hread
    exact ⟨loads_of_lin hind (hdata _ _), loads_of_lin hindY (add_index (hdata _ _) r.y)⟩
  · have hread := read16_pointerEA hdx (hsecond dx) h0 h1
    exact loads_of_lin (congrArg (fun p : Word × State => (EA.lin (r.dataAddr p.1), p.2)) hread) (hdata _ _)
  · have hread : read16 (EA.b0 (r.sp + zext o)) s = (word (s.byteAt (at16 (sr + 1))) (s.byteAt (at16 sr)), s) := by
      have hb := b0_byteAddr_number (a := r.sp + zext o) (n := sr) (by rw [sr_toNat]; exact (Nat.mod_mod _ _).symm)
      rw [read16_memory (by rw [hb]; exact isMemory_iff.mp h0) (by rw [hb]; exact isMemory_iff.mp h1), hb, hb]
      rfl
    refine loads_of_lin (congrArg (fun p : Word × State => (EA.lin (r.dataAddr p.1 + zextAddr r.y), p.2)) hread) ?_
    rw [Nat.add_assoc bank]
    exact add_index (hdata _ _) r.y
  · have hb := b0_byteAddr_number (a := r.dp o) (n := d) (by rw [dp_toNat]; exact (Nat.mod_mod _ _).symm)
    have hread : read24 (EA.b0 (r.dp o)) s = (BitVec.ofNat 24 p, s) := by
      rw [read24_memory (by rw [hb]; exact isMemory_iff.mp h0) (by rw [hb]; exact isMemory_iff.mp h1)
        (by rw [hb]; exact isMemory_iff.mp h2), hb, hb, hb, addr_of_bytes, hp]
      rfl
    have hind := congrArg (fun p : Addr × State => (EA.lin p.1, p.2)) hread
    have hindY := congrArg (fun p : Addr × State => (EA.lin (p.1 + zextAddr r.y), p.2)) hread
    exact ⟨loads_of_lin hind rfl, loads_of_lin hindY (add_index rfl r.y)⟩

end Sys2Proof
end

section
/-! PROOFS. The accesses of a state operation (R67, R69, R71): which bytes it reads and writes, in order, what a device
sees of them, what they leave of memory and how many free values they draw. -/

namespace Sys2Proof.Machine

open Sys2Proof.Spec

/-- From `s` to `t` the machine performs the accesses `as` in order: devices see those that are theirs, only RAM is
written, and nothing where all are reads; where there is only RAM and ROM, `d` free values are drawn. -/
structure Performs (as : List Access) (d : Nat) (s t : State) : Prop where
  params : t.params = s.params
  seen : devicesSee as s t
  kept : (∀ x ∈ as, x.2 = none) → t.mem = s.mem
  onlyRam : s.mem.wf = true → t.mem.wf = true ∧ ∀ a, s.kindAt a ≠ .ram → t.byteAt a = s.byteAt a
  drawn : (∀ a, isMemory s a = true) → t.draws = s.draws + d

/-- Registers, run state and lines have no part in it. -/
theorem Performs.congr {as : List Access} {d : Nat} {s t s' t' : State} (h : Performs as d s t)
    (hs : s'.params = s.params ∧ s'.mem = s.mem ∧ s'.draws = s.draws ∧ s'.deviceLog = s.deviceLog)
    (ht : t'.params = t.params ∧ t'.mem = t.mem ∧ t'.draws = t.draws ∧ t'.deviceLog = t.deviceLog) :
    Performs as d s' t' := by
  obtain ⟨hsp, hsm, hsd, hsl⟩ := hs
  obtain ⟨htp, htm, htd, htl⟩ := ht
  have hk (a : Addr) : s'.kindAt a = s.kindAt a := kindAt_congr hsp a
  refine ⟨by rw [htp, hsp, h.params], ?_, fun hr => by rw [htm, hsm, h.kept hr], fun hw => ?_, fun hm => ?_⟩
  · simpa only [devicesSee, htl, hsl, hk] using h.seen
  · obtain ⟨hw', hb⟩ := h.onlyRam (hsm ▸ hw)
    exact ⟨htm ▸ hw', fun a ha => by rw [byteAt_congr htm, byteAt_congr hsm, hb a (hk a ▸ ha)]⟩
  · rw [htd, hsd, h.drawn fun a => by rw [← isMemory_congr hsp]; exact hm a]

/-- Another final state with the same memory, parameters, draws and device log. -/
theorem Performs.to {as : List Access} {d : Nat} {s t t' : State} (h : Performs as d s t)
    (ht : t'.params = t.params ∧ t'.mem = t.mem ∧ t'.draws = t.draws ∧ t'.deviceLog = t.deviceLog) :
    Performs as d s t' :=
  h.congr ⟨rfl, rfl, rfl, rfl⟩ ht

theorem Performs.onRegs {as : List Access} {d : Nat} {s t : State} (h : Performs as d s t) (f : Regs → Regs) :
    Performs as d s (t.onRegs f) :=
  h.congr ⟨rfl, rfl, rfl, rfl⟩ ⟨rfl, rfl, rfl, rfl⟩

theorem Performs.of_onRegs {as : List Access} {d : Nat} {s t : State} {f : Regs → Regs}
    (h : Performs as d (s.onRegs f) t) : Performs as d s t :=
  h.congr ⟨rfl, rfl, rfl, rfl⟩ ⟨rfl, rfl, rfl, rfl⟩

theorem Performs.refl (s : State) : Performs [] 0 s s :=
  ⟨rfl, ⟨[], rfl, rfl⟩, fun _ => rfl, fun hw => ⟨hw, fun _ _ => rfl⟩, fun _ => rfl⟩

theorem Performs.trans {as bs : List Access} {d e : Nat} {s t u : State} (h : Performs as d s t)
    (h' : Performs bs e t u) : Performs (as ++ bs) (d + e) s u := by
  have hk (a : Addr) : t.kindAt a = s.kindAt a := kindAt_congr h.params a
  refine ⟨h'.params.trans h.params, ?_, fun hr => ?_, fun hw => ?_, fun hm => ?_⟩
  · obtain ⟨l, hl, hs⟩ := h.seen
    obtain ⟨l', hl', hs'⟩ := h'.seen
    refine ⟨l' ++ l, by rw [hl', hl, List.append_assoc], ?_⟩
    simp only [hk] at hs'
    rw [List.map_append, List.reverse_append, List.filter_append, hs, hs']
  · rw [h'.kept fun x hx => hr x (List.mem_append_right _ hx), h.kept fun x hx => hr x (List.mem_append_left _ hx)]
  · obtain ⟨hw', hb⟩ := h.onlyRam hw
    obtain ⟨hw'', hb'⟩ := h'.onlyRam hw'
    exact ⟨hw'', fun a ha => (hb' a (hk a ▸ ha)).trans (hb a ha)⟩
  · rw [h'.drawn fun a => by rw [isMemory_congr h.params]; exact hm a, h.drawn hm, Nat.add_assoc]

/-- Two parts that draw nothing. -/
theorem Performs.append {as bs : List Access} {s t u : State} (h : Performs as 0 s t) (h' : Performs bs 0 t u) :
    Performs (as ++ bs) 0 s u := h.trans h'

/-! ### One byte -/

theorem performs_readByte (a : Addr) (s : State) : Performs [(a, none)] 0 s (readByte a s).2 := by
  refine ⟨by simp, ?_, fun _ => by simp, fun hw => ⟨by simpa using hw, fun b _ => byteAt_congr (by simp) b⟩,
    fun hm => ?_⟩
  · unfold readByte
    cases hk : s.kindAt a
    case device => exact ⟨[.read a _], rfl, by simp [shown, hk]⟩
    all_goals exact ⟨[], rfl, by simp [hk]⟩
  · rw [readByte_memory (isMemory_iff.mp (hm a))]
    rfl

theorem performs_writeByte (a : Addr) (v : Byte) (s : State) : Performs [(a, some v)] 0 s (writeByte a v s) := by
  refine ⟨by simp, ?_, fun hr => ?_, fun hw => ⟨writeByte_wf a v hw, fun b hb => ?_⟩, fun _ => by simp⟩
  · unfold writeByte
    cases hk : s.kindAt a
    case device => exact ⟨[.write a v], rfl, by simp [shown, hk]⟩
    all_goals exact ⟨[], rfl, by simp [hk]⟩
  · exact absurd (hr _ List.mem_cons_self) (by simp)
  · have hne : ¬ (b = a ∧ s.kindAt a = .ram) := fun ⟨h, hram⟩ => hb (h ▸ hram)
    rw [writeByte_byteAt a v hw, if_neg hne]

theorem performs_countDraw (s : State) : Performs [] 1 s s.countDraw :=
  ⟨rfl, ⟨[], rfl, rfl⟩, fun _ => rfl, fun hw => ⟨hw, fun _ _ => rfl⟩, fun _ => rfl⟩

/-! ### One operand -/

theorem performs_read16 (ea : EA) (s : State) : Performs (reads [ea.byteAddr 0, ea.byteAddr 1]) 0 s (read16 ea s).2 :=
  (performs_readByte _ _).append (performs_readByte _ _)

theorem performs_read24 (ea : EA) (s : State) :
    Performs (reads [ea.byteAddr 0, ea.byteAddr 1, ea.byteAddr 2]) 0 s (read24 ea s).2 :=
  (performs_read16 ea s).append (performs_readByte _ _)

theorem performs_loadEA (ea : EA) (f : Bool) (s : State) :
    Performs (reads (operandBytes ea f)) 0 s (loadEA ea (Width.ofFlag f) s).2 := by
  cases f
  · exact performs_read16 ea s
  · exact performs_readByte _ s

theorem performs_storeEA (ea : EA) (f : Bool) (v : Word) (s : State) :
    Performs (writesLowFirst ea f v) 0 s (storeEA ea (Width.ofFlag f) v s) := by
  cases f
  · exact (performs_writeByte _ _ _).append (performs_writeByte _ _ _)
  · exact performs_writeByte _ _ _

theorem performs_storeBackEA (ea : EA) (f : Bool) (v : Word) (s : State) :
    Performs (writesLowFirst ea f v).reverse 0 s (storeBackEA ea (Width.ofFlag f) v s) := by
  cases f
  · exact (performs_writeByte _ _ _).append (performs_writeByte _ _ _)
  · exact performs_writeByte _ _ _

/-- Computing an effective address reads the pointer bytes of its mode. -/
theorem performs_effAddr (md : MemMode) (s : State) : Performs (reads (pointerBytes md s)) 0 s (effAddr md s).2 := by
  have hdp (o : Byte) := (dp_toNat s.regs o).trans (Nat.mod_mod _ _).symm
  have hptr {a : Word} {n : Nat} (h : a.toNat = n % 65536) (hn : n < 65536) :
      Performs (reads (pagePointer s n)) 0 s (read16 (s.pointerEA a) s).2 := by
    rw [← pointerEA_byteAddr h hn]
    exact performs_read16 _ _
  cases md
  case dpInd o | dpIndY o => exact hptr (hdp o) (Nat.mod_lt _ (by decide))
  case dpXInd o =>
    have hx := directIndexed_toNat s o s.regs.x
    have hlt := (s.directIndexed o s.regs.x).isLt
    rw [hx] at hlt
    exact hptr (hx.trans (Nat.mod_eq_of_lt hlt).symm) hlt
  case srIndY o =>
    have hb := b0_byteAddr_number (sr_toNat s.regs o)
    have := performs_read16 (EA.b0 (s.regs.sp + zext o)) s
    rw [hb, hb] at this
    exact this
  case dpLongInd o | dpLongIndY o =>
    have hb := b0_byteAddr_number (dp_toNat s.regs o)
    have := performs_read24 (EA.b0 (s.regs.dp o)) s
    rw [hb, hb, hb] at this
    exact this
  all_goals exact Performs.refl s

theorem performs_loadMem (md : MemMode) (f : Bool) (s : State) :
    Performs (reads (pointerBytes md s) ++ reads (operandBytes (effAddr md s).1 f)) 0 s
      (loadMem md (Width.ofFlag f) s).2 :=
  (performs_effAddr md s).append (performs_loadEA _ f _)

theorem performs_storeMem (md : MemMode) (f : Bool) (v : Word) (s : State) :
    Performs (reads (pointerBytes md s) ++ writesLowFirst (effAddr md s).1 f v) 0 s
      (storeMem md (Width.ofFlag f) v s) :=
  (performs_effAddr md s).append (performs_storeEA _ f v _)

end Sys2Proof.Machine
end

section
/-! PROOFS. The accesses of the stack, of an entry and of a block move, in the order the model makes them; with the
invariant they are those of the statements. -/

namespace Sys2Proof.Machine

open Sys2Proof.Spec

/-! ### Pushes and pulls -/

/-- The writes of a run of pushes. -/
def pushList : List Byte → Regs → List Access
  | [], _ => []
  | b :: bs, r => (r.stackAddr, some b) :: pushList bs r.decS

/-- The reads of a run of pulls. -/
def pullList : Nat → Regs → List Access
  | 0, _ => []
  | n + 1, r => (r.incS.stackAddr, none) :: pullList n r.incS

theorem pushList_moved (bs : List Byte) (k : Nat) {r : Regs} (h : r.inv = true) :
    pushList bs (r.moved (-(k : Int))) = pushWrites k bs r := by
  induction bs generalizing k with
  | nil => rfl
  | cons b bs ih =>
    have hinv := Regs.moved_inv (-(k : Int)) h
    have hk : -(k : Int) + -1 = -((k + 1 : Nat) : Int) := by push_cast; ring
    rw [pushList, pushWrites, stackAddr_eq hinv, slot_moved, decS_eq hinv, Regs.moved_moved, hk, ih, add_zero]

theorem pushList_eq (bs : List Byte) {r : Regs} (h : r.inv = true) : pushList bs r = pushWrites 0 bs r := by
  rw [← pushList_moved bs 0 h, Nat.cast_zero, neg_zero, moved_zero h]

theorem pullList_moved (n k : Nat) {r : Regs} (h : r.inv = true) :
    pullList n (r.moved k) = (List.range' k n).map fun j => (slot r ((j + 1 : Nat) : Int), none) := by
  induction n generalizing k with
  | zero => rfl
  | succ n ih =>
    have hinv := Regs.moved_inv (k : Int) h
    have hk : (r.moved k).incS = r.moved ((k + 1 : Nat) : Int) := by
      rw [incS_eq hinv, Regs.moved_moved]
      rfl
    rw [pullList, hk, stackAddr_eq (Regs.moved_inv _ h), slot_moved, ih, List.range'_succ, List.map_cons, add_zero]

theorem pullList_eq (n : Nat) {r : Regs} (h : r.inv = true) : pullList n r = pullReads n r := by
  rw [pullReads, List.range_eq_range', ← pullList_moved n 0 h, Nat.cast_zero, moved_zero h]

/-- The reads of pulls depend on S and on the mode alone. -/
theorem pullList_congr (n : Nat) {r r' : Regs} (hsp : r'.sp = r.sp) (he : r'.e = r.e) :
    pullList n r' = pullList n r := by
  induction n generalizing r r' with
  | zero => rfl
  | succ n ih =>
    have h : r'.incS.sp = r.incS.sp := by simp only [Regs.incS, Regs.setS, hsp, he]
    rw [pullList, pullList, Regs.stackAddr, Regs.stackAddr, h, ih h (by simpa using he)]

theorem pullList_isRead {n : Nat} {r : Regs} : ∀ x ∈ pullList n r, x.2 = none := by
  induction n generalizing r with
  | zero => simp [pullList]
  | succ n ih => simpa [pullList] using fun a b hx => ih (a, b) hx

theorem reads_isRead {as : List Addr} : ∀ x ∈ reads as, x.2 = none := by
  simp [reads]

theorem performs_push8 (v : Byte) (s : State) : Performs [(s.regs.stackAddr, some v)] 0 s (push8 v s) :=
  (performs_writeByte _ _ _).onRegs _

theorem performs_pushAll (bs : List Byte) (s : State) : Performs (pushList bs s.regs) 0 s (pushAll bs s) := by
  induction bs generalizing s with
  | nil => exact Performs.refl s
  | cons b bs ih =>
    have h := (performs_push8 b s).append (ih (push8 b s))
    rwa [push8_regs] at h

theorem performs_pull8 (s : State) : Performs (pullList 1 s.regs) 0 s (pull8 s).2 :=
  Performs.of_onRegs (performs_readByte s.regs.incS.stackAddr (s.onRegs Regs.incS))

theorem performs_pull16 (s : State) : Performs (pullList 2 s.regs) 0 s (pull16 s).2 := by
  have h := (performs_pull8 s).append (performs_pull8 (pull8 s).2)
  rwa [pull8_regs] at h

theorem performs_pullWidth (f : Bool) (s : State) :
    Performs (pullList (bits f / 8) s.regs) 0 s (pullWidth (Width.ofFlag f) s).2 := by
  cases f
  · exact performs_pull16 s
  · exact performs_pull8 s

/-! ### Entries and returns -/

theorem pushAll_e (bs : List Byte) (s : State) : (pushAll bs s).regs.e = s.regs.e := by
  induction bs generalizing s with
  | nil => rfl
  | cons b bs ih => rw [pushAll_cons, ih, push8_regs, Regs.decS_e]

theorem performs_enter (src : IntSource) (ret : Word) (b : Bool) (s : State) :
    Performs (pushList (frame s.regs ret b) s.regs ++ vectorReads (vectorAddr src s.regs.e)) 0 s
      (enter src ret b s) := by
  have he : ((pushFrame ret b s).onRegs Regs.enterHandler).regs.e = s.regs.e := by
    rw [pushFrame_eq, State.onRegs_regs, Regs.enterHandler_e, pushAll_e]
  have hread := performs_read16 (EA.b0 (vectorAddr src s.regs.e)) ((pushFrame ret b s).onRegs Regs.enterHandler)
  rw [b0_byteAddr_zero, b0_byteAddr_one] at hread
  have hpush := (performs_pushAll (frame s.regs ret b) s).onRegs Regs.enterHandler
  rw [← pushFrame_eq] at hpush
  rw [enter, he]
  generalize (pushFrame ret b s).onRegs Regs.enterHandler = u at hread hpush
  exact (hpush.append hread).to ⟨rfl, rfl, rfl, rfl⟩

theorem performs_pullReturn (s : State) :
    Performs (pullList (if s.regs.e then 2 else 3) s.regs) 0 s (pullReturn s) := by
  have h16 := (performs_pull16 s).onRegs (Regs.jump (pull16 s).1)
  have hregs : ((pull16 s).2.onRegs (Regs.jump (pull16 s).1)).regs = (s.regs.incS.incS).jump (pull16 s).1 := by
    rw [State.onRegs_regs, pull16_regs]
  rw [pullReturn]
  generalize (pull16 s).2.onRegs (Regs.jump (pull16 s).1) = t at h16 hregs
  have he : t.regs.e = s.regs.e := by rw [hregs]; simp
  simp only [he]
  split
  · exact h16
  · have h8 := (performs_pull8 t).onRegs fun r => { r with pbr := (pull8 t).1 }
    rw [pullList_congr 1 (r := s.regs.incS.incS) (by rw [hregs]; rfl) (by rw [hregs]; rfl)] at h8
    exact h16.append h8

theorem performs_returnFromInterrupt (s : State) :
    Performs (pullList (if s.regs.e then 3 else 4) s.regs) 0 s (returnFromInterrupt s) := by
  have h8 := (performs_pull8 s).onRegs (Regs.unpackP (pull8 s).1)
  have hrest := performs_pullReturn ((pull8 s).2.onRegs (Regs.unpackP (pull8 s).1))
  have hsp : ((pull8 s).2.onRegs (Regs.unpackP (pull8 s).1)).regs.sp = s.regs.incS.sp := by simp
  have he : ((pull8 s).2.onRegs (Regs.unpackP (pull8 s).1)).regs.e = s.regs.e := by simp
  rw [pullList_congr _ hsp (he.trans (by simp)), he] at hrest
  rw [returnFromInterrupt_eq]
  have h := h8.append hrest
  split at h
  · next hs => rw [if_pos hs]; exact h
  · next hs => rw [if_neg hs]; exact h

/-! ### Block moves -/

theorem performs_blockPass (down : Bool) (dst src : Byte) (s : State) :
    Performs [(bankAddr src s.regs.x, none), (bankAddr dst s.regs.y, some (passRead dst src s).1)] 0 s
      (blockPass down dst src s) := by
  have hy : (passRead dst src s).2.regs.y = s.regs.y := by rw [passRead_regs]
  have hread : Performs [(bankAddr src s.regs.x, none)] 0 s (passRead dst src s).2 :=
    (performs_readByte _ (s.onRegs fun g => { g with dbr := dst })).of_onRegs
  have hwrite := performs_writeByte (bankAddr dst (passRead dst src s).2.regs.y) (passRead dst src s).1
    (passRead dst src s).2
  have h := hread.append (hwrite.onRegs fun g => { g with x := stepIndex down g.wX g.x, y := stepIndex down g.wX g.y })
  rwa [← hy]

theorem performs_blockLoop (down : Bool) (dst src : Byte) (n : Nat) (s : State) :
    ∃ as, Performs as 0 s (blockLoop down dst src n s) := by
  induction n generalizing s with
  | zero => exact ⟨_, (performs_blockPass down dst src s).to ⟨rfl, rfl, rfl, rfl⟩⟩
  | succ n ih =>
    obtain ⟨as, h⟩ := ih (blockCount (blockPass down dst src s))
    exact ⟨_, ((performs_blockPass down dst src s).onRegs fun g => { g with c := g.c - 1 }).append h⟩

end Sys2Proof.Machine
end

section
/-! PROOFS. The accesses of every instruction, and what follows: who stores, what a device sees, who draws (R67, R69).
-/

namespace Sys2Proof.Machine

open Sys2Proof.Spec

/-! ### Instructions with a data operand -/

/-- The mnemonics that have a data operand (groups 1 to 3). -/
def operandMnemonics : List Mnemonic :=
  [.adc, .sbc, .and, .cmp, .eor, .lda, .ora, .bit, .ldx, .ldy, .cpx, .cpy, .sta, .stx, .sty, .stz, .ror, .asl, .lsr,
    .rol, .inc, .dec, .trb, .tsb]

theorem mnemonic_of_dataOperand {i : Instr} {o : Operand} (h : i.dataOperand = some o) :
    i.mnemonic ∈ operandMnemonics := by
  cases i <;> cases h <;> simp [Instr.mnemonic, Instr.coding, operandMnemonics]

/-- The accesses of a data operand: none for an immediate. -/
def operandAccesses (k : Mnemonic) (o : Operand) (s : State) : List Access :=
  match o with
  | .imm _ => []
  | .mem md => memoryAccesses k md s

/-- Those of one that is read at the width of a flag. -/
def operandReads (f : Bool) (o : Operand) (s : State) : List Access :=
  match o with
  | .imm _ => []
  | .mem md => reads (pointerBytes md s) ++ reads (operandBytes (effAddr md s).1 f)

theorem performs_loadOperand (f : Bool) (o : Operand) (s : State) :
    Performs (operandReads f o s) 0 s (loadOperand o (Width.ofFlag f) s).2 := by
  cases o with
  | imm v => exact Performs.refl s
  | mem md => exact performs_loadMem md f s

theorem performs_decimalResult (w : Width) (q : Word × Bool) (s : State) :
    Performs [] 1 s (decimalResult w q s) := (performs_countDraw s).onRegs _

theorem performs_decimalInvalid (s : State) : Performs [] 5 s (decimalInvalid s) :=
  (((((performs_countDraw s).trans (performs_countDraw _)).trans (performs_countDraw _)).trans
    (performs_countDraw _)).trans (performs_countDraw _)).to ⟨rfl, rfl, rfl, rfl⟩

/-- An addition or subtraction draws in decimal mode alone. -/
theorem performs_addToAcc (w : Width) (m : Word) (s : State) :
    ∃ d, Performs [] d s (addToAcc w m s) ∧ (d ≠ 0 → s.regs.p.d = true) := by
  unfold addToAcc
  dsimp only
  split_ifs with hd hv
  · exact ⟨1, performs_decimalResult _ _ s, fun _ => hd⟩
  · exact ⟨5, performs_decimalInvalid s, fun _ => hd⟩
  · exact ⟨0, (Performs.refl s).onRegs _, fun h => absurd rfl h⟩

theorem performs_subFromAcc (w : Width) (m : Word) (s : State) :
    ∃ d, Performs [] d s (subFromAcc w m s) ∧ (d ≠ 0 → s.regs.p.d = true) := by
  unfold subFromAcc
  dsimp only
  split_ifs with hd hv
  · exact ⟨1, performs_decimalResult _ _ s, fun _ => hd⟩
  · exact ⟨5, performs_decimalInvalid s, fun _ => hd⟩
  · exact ⟨0, (Performs.refl s).onRegs _, fun h => absurd rfl h⟩

/-- Reading an operand and going on with it, where what is done with it may draw in decimal mode. -/
theorem performs_withAccOperand {f : Width → Word → State → State} (o : Operand) {s : State}
    (hf : ∀ w m t, ∃ d, Performs [] d t (f w m t) ∧ (d ≠ 0 → t.regs.p.d = true)) :
    ∃ d, Performs (operandReads s.regs.p.m o s) d s (withAccOperand f o s) ∧ (d ≠ 0 → s.regs.p.d = true) := by
  obtain ⟨d, hd, hdec⟩ := hf s.regs.wA (loadOperand o s.regs.wA s).1 (loadOperand o s.regs.wA s).2
  have h := ((performs_loadOperand s.regs.p.m o s).trans hd).onRegs (Regs.advance (operandLen s.regs.wA o))
  rw [List.append_nil, Nat.zero_add] at h
  exact ⟨d, h, by simpa using hdec⟩

theorem writesLowFirst_trunc (ea : EA) (f : Bool) (v : Word) :
    writesLowFirst ea f ((Width.ofFlag f).trunc v) = writesLowFirst ea f v := by
  cases f <;> simp [writesLowFirst, Width.ofFlag, Width.trunc]

theorem performs_store (md : MemMode) (f : Bool) (v : Word) (s : State) :
    Performs (reads (pointerBytes md s) ++ writesLowFirst (effAddr md s).1 f v) 0 s
      (storeMem md (Width.ofFlag f) ((Width.ofFlag f).trunc v) s) := by
  rw [← writesLowFirst_trunc]
  exact performs_storeMem md f _ s

/-- The read-modify-writes. -/
theorem performs_storeBack (md : MemMode) (v : Word) (s : State) :
    Performs (reads (pointerBytes md s) ++ (reads (operandBytes (effAddr md s).1 s.regs.p.m) ++
        (writesLowFirst (effAddr md s).1 s.regs.p.m v).reverse)) 0 s
      (storeBackEA (effAddr md s).1 s.regs.wA v (loadMem md s.regs.wA s).2) := by
  rw [← List.append_assoc]
  exact (performs_loadMem md s.regs.p.m s).append (performs_storeBackEA (effAddr md s).1 s.regs.p.m v _)

theorem performs_modifyMem {k : Mnemonic} {F : Width → Word → Bool → Word × Bool} (hF : Modifies k F) (md : MemMode)
    (s : State) :
    Performs (reads (pointerBytes md s) ++ (reads (operandBytes (effAddr md s).1 s.regs.p.m) ++
      (writesLowFirst (effAddr md s).1 s.regs.p.m (BitVec.ofNat 16
        (modified k (bits s.regs.p.m) (loadMem md s.regs.wA s).1.toNat s.regs.p.c).1)).reverse)) 0 s
      (modifyMem F md s) := by
  have h := hF (bits_ofFlag s.regs.p.m ▸ loadMem_lt md s.regs.wA s) s.regs.p.c
  have hv : (F (Width.ofFlag s.regs.p.m) (loadMem md s.regs.wA s).1 s.regs.p.c).1 =
      BitVec.ofNat 16 (modified k (bits s.regs.p.m) (loadMem md s.regs.wA s).1.toNat s.regs.p.c).1 := by rw [h]
  rw [← hv]
  exact (performs_storeBack md _ s).to ⟨rfl, rfl, rfl, rfl⟩

/-- Every instruction with a data operand: its accesses, and free values only for decimal ADC and SBC. -/
theorem performs_operandMeaning {k : Mnemonic} (hk : k ∈ operandMnemonics) (o : Operand) (s : State) :
    ∃ d, Performs (operandAccesses k o s) d s (operandMeaning k o s) ∧
      (d ≠ 0 → k ∈ [.adc, .sbc] ∧ s.regs.p.d = true) := by
  have none {as : List Access} {t : State} (h : Performs as 0 s t)
      (ht : (operandMeaning k o s).params = t.params ∧ (operandMeaning k o s).mem = t.mem ∧
        (operandMeaning k o s).draws = t.draws ∧ (operandMeaning k o s).deviceLog = t.deviceLog) :
      ∃ d, Performs as d s (operandMeaning k o s) ∧ (d ≠ 0 → k ∈ [.adc, .sbc] ∧ s.regs.p.d = true) :=
    ⟨0, h.to ht, fun h => absurd rfl h⟩
  simp only [operandMnemonics, List.mem_cons, List.not_mem_nil, or_false] at hk
  obtain rfl | rfl | hk := hk
  · obtain ⟨d, h, hd⟩ := performs_withAccOperand o (s := s) performs_addToAcc
    cases o <;> exact ⟨d, h, fun h0 => ⟨by decide, hd h0⟩⟩
  · obtain ⟨d, h, hd⟩ := performs_withAccOperand o (s := s) performs_subFromAcc
    cases o <;> exact ⟨d, h, fun h0 => ⟨by decide, hd h0⟩⟩
  have hacc := performs_loadOperand s.regs.p.m o s
  have hindex := performs_loadOperand s.regs.p.x o s
  cases o with
  | imm v =>
    obtain rfl | rfl | rfl | rfl | rfl | rfl | rfl | rfl | rfl | rfl | rfl | rfl | rfl | rfl | rfl | rfl | rfl | rfl |
      rfl | rfl | rfl | rfl := hk <;> exact none (Performs.refl s) ⟨rfl, rfl, rfl, rfl⟩
  | mem md =>
    obtain rfl | rfl | rfl | rfl | rfl | rfl | hk := hk
    iterate 6 exact none hacc ⟨rfl, rfl, rfl, rfl⟩
    obtain rfl | rfl | rfl | rfl | hk := hk
    iterate 4 exact none hindex ⟨rfl, rfl, rfl, rfl⟩
    obtain rfl | rfl | rfl | rfl | hk := hk
    · exact none (performs_store md s.regs.p.m s.regs.c s) ⟨rfl, rfl, rfl, rfl⟩
    · exact none (performs_store md s.regs.p.x s.regs.x s) ⟨rfl, rfl, rfl, rfl⟩
    · exact none (performs_store md s.regs.p.x s.regs.y s) ⟨rfl, rfl, rfl, rfl⟩
    · exact none (performs_storeMem md s.regs.p.m 0x0000#16 s) ⟨rfl, rfl, rfl, rfl⟩
    obtain rfl | rfl | rfl | rfl | rfl | rfl | hk := hk
    · exact none (performs_modifyMem modifies_ror md s) ⟨rfl, rfl, rfl, rfl⟩
    · exact none (performs_modifyMem modifies_asl md s) ⟨rfl, rfl, rfl, rfl⟩
    · exact none (performs_modifyMem modifies_lsr md s) ⟨rfl, rfl, rfl, rfl⟩
    · exact none (performs_modifyMem modifies_rol md s) ⟨rfl, rfl, rfl, rfl⟩
    · exact none (performs_modifyMem modifies_inc md s) ⟨rfl, rfl, rfl, rfl⟩
    · exact none (performs_modifyMem modifies_dec md s) ⟨rfl, rfl, rfl, rfl⟩
    obtain rfl | rfl := hk
    · simp only [operandAccesses, memoryAccesses, acc_eq]
      exact none (performs_storeBack md ((loadMem md s.regs.wA s).1 &&& ~~~s.regs.acc) s) ⟨rfl, rfl, rfl, rfl⟩
    · simp only [operandAccesses, memoryAccesses, acc_eq]
      exact none (performs_storeBack md ((loadMem md s.regs.wA s).1 ||| s.regs.acc) s) ⟨rfl, rfl, rfl, rfl⟩

/-! ### Instructions without one -/

/-- The accesses of an instruction without a data operand, the block moves aside, in the order the model makes them. -/
def bareAccesses (i : Instr) (s : State) : List Access :=
  let r := s.regs
  match i with
  | .pha => pushList (pushBytes r.p.m r.c) r
  | .phx => pushList (pushBytes r.p.x r.x) r
  | .phy => pushList (pushBytes r.p.x r.y) r
  | .phb => pushList [r.dbr] r
  | .phk => pushList [r.pbr] r
  | .php => pushList [image r.e true r.p] r
  | .phd => pushList (pushWord r.dr) r
  | .pea a => pushList (pushWord a) r
  | .per a => pushList (pushWord (r.pc + 3 + a)) r
  | .pei o => vectorReads (r.dr + zext o) ++ pushList (pushWord (read16 (EA.b0 (r.dr + zext o)) s).1) r
  | .pla => pullList (bits r.p.m / 8) r
  | .plx | .ply => pullList (bits r.p.x / 8) r
  | .plb | .plp => pullList 1 r
  | .pld | .rts => pullList 2 r
  | .rtl => pullList 3 r
  | .rti => pullList (if r.e then 3 else 4) r
  | .brk _ => pushList (frame r (r.pc + 2) true) r ++ vectorReads (vectorAddr .brk r.e)
  | .cop _ => pushList (frame r (r.pc + 2) (Config.freeBit s.draws)) r ++ vectorReads (vectorAddr .cop r.e)
  | .jsrAbs _ => pushList (pushWord (r.pc + 2)) r
  | .jsrAbsXInd a => pushList (pushWord (r.pc + 2)) r ++ reads [indexedPointer s a 0, indexedPointer s a 1]
  | .jsl _ => pushList (r.pbr :: pushWord (r.pc + 3)) r
  | .jmpAbsInd a => vectorReads a
  | .jmpAbsXInd a => reads [indexedPointer s a 0, indexedPointer s a 1]
  | .jml a => vectorReads a ++ reads [bankAddr 0x00#8 (a + 2)]
  | _ => []

theorem performs_read16_b0 (a : Word) (s : State) : Performs (vectorReads a) 0 s (read16 (EA.b0 a) s).2 := by
  have h := performs_read16 (EA.b0 a) s
  rwa [b0_byteAddr_zero, b0_byteAddr_one] at h

theorem performs_read16_indexed (a : Word) (s : State) :
    Performs (reads [indexedPointer s a 0, indexedPointer s a 1]) 0 s (read16 (s.indexedPointerEA a) s).2 := by
  rw [← indexedPointer_eq, ← indexedPointer_eq]
  exact performs_read16 _ s

theorem performs_read24_b0 (a : Word) (s : State) :
    Performs (vectorReads a ++ reads [bankAddr 0x00#8 (a + 2)]) 0 s (read24 (EA.b0 a) s).2 := by
  have h := performs_read24 (EA.b0 a) s
  rwa [b0_byteAddr_zero, b0_byteAddr_one, b0_byteAddr_two] at h

theorem performs_pushWidth (f : Bool) (v : Word) (s : State) :
    Performs (pushList (pushBytes f v) s.regs) 0 s (pushWidth (Width.ofFlag f) v s) := by
  rw [pushWidth_eq]
  exact performs_pushAll _ s

theorem performs_pei (o : Byte) (s : State) : Performs (vectorReads (s.regs.dr + zext o) ++
    pushList (pushWord (read16 (EA.b0 (s.regs.dr + zext o)) s).1) s.regs) 0 s (peiOp o s) := by
  have h := (performs_read16_b0 (s.regs.dr + zext o) s).append
    (performs_pushAll (pushWord (read16 (EA.b0 (s.regs.dr + zext o)) s).1) _)
  rw [read16_regs] at h
  exact h.to ⟨rfl, rfl, rfl, rfl⟩

theorem performs_jsrIndexed (a : Word) (s : State) :
    Performs (pushList (pushWord (s.regs.pc + 2)) s.regs ++ reads [indexedPointer s a 0, indexedPointer s a 1]) 0 s
      (jsrIndexed a s) := by
  have hread := performs_read16_indexed a (pushAll (pushWord (s.regs.pc + 2)) s)
  have hptr (k : Nat) : indexedPointer (pushAll (pushWord (s.regs.pc + 2)) s) a k = indexedPointer s a k := by
    rw [indexedPointer, pushAll_params, indexedPointer]
    simp [pushWord]
  rw [hptr, hptr] at hread
  exact ((performs_pushAll (pushWord (s.regs.pc + 2)) s).append hread).to ⟨rfl, rfl, rfl, rfl⟩

theorem performs_jsl (a : Addr) (s : State) :
    Performs (pushList (s.regs.pbr :: pushWord (s.regs.pc + 3)) s.regs) 0 s (jslOp a s) := by
  rw [jslOp_eq]
  exact (performs_pushAll _ s).onRegs _

theorem performs_rtl (s : State) : Performs (pullList 3 s.regs) 0 s (rtlOp s) := by
  have h := (performs_pull16 s).append (performs_pull8 (pull16 s).2)
  rw [pull16_regs] at h
  exact h.to ⟨rfl, rfl, rfl, rfl⟩

/-- COP's entry; in emulation mode one free value is drawn before it. -/
theorem performs_cop (s : State) :
    Performs (pushList (frame s.regs (s.regs.pc + 2) (Config.freeBit s.draws)) s.regs ++
      vectorReads (vectorAddr .cop s.regs.e)) (if s.regs.e then 1 else 0) s (copOp s) := by
  rw [copOp]
  by_cases he : s.regs.e = true
  · rw [if_pos he, if_pos he]
    exact (performs_countDraw s).trans (performs_enter .cop _ _ s.countDraw)
  · rw [if_neg he, if_neg he, frame_native (by simpa using he) _ _ true]
    exact performs_enter .cop _ _ s

/-- Every instruction without a data operand, the block moves aside: a free value only for COP in emulation mode. -/
theorem performs_bare {i : Instr} {s t : State} (ho : ∀ o, i.dataOperand ≠ some o) (hi : i.mnemonic ∉ [.mvn, .mvp])
    (ht : exec i s = .next t) :
    ∃ d, Performs (bareAccesses i s) d s t ∧ (d ≠ 0 → i.mnemonic = .cop ∧ s.regs.e = true) := by
  have none (h : Performs (bareAccesses i s) 0 s t) :
      ∃ d, Performs (bareAccesses i s) d s t ∧ (d ≠ 0 → i.mnemonic = .cop ∧ s.regs.e = true) :=
    ⟨0, h, fun h => absurd rfl h⟩
  cases i <;> try exact absurd rfl (ho _)
  all_goals have ht := Host.Outcome.next.inj ht; subst ht
  case mvn | mvp => exact absurd hi (by simp [Instr.mnemonic, Instr.coding])
  case cop =>
    refine ⟨_, performs_cop s, fun h => ⟨rfl, ?_⟩⟩
    by_contra he
    exact h (if_neg he)
  case brk => exact none (performs_enter .brk _ true s)
  case pha =>
    have h := performs_pushWidth s.regs.p.m s.regs.acc s
    rw [Regs.acc, Regs.wA, pushBytes_trunc] at h
    exact none (h.to ⟨rfl, rfl, rfl, rfl⟩)
  case phx => exact none ((performs_pushWidth s.regs.p.x s.regs.x s).to ⟨rfl, rfl, rfl, rfl⟩)
  case phy => exact none ((performs_pushWidth s.regs.p.x s.regs.y s).to ⟨rfl, rfl, rfl, rfl⟩)
  case phb => exact none ((performs_pushAll [s.regs.dbr] s).to ⟨rfl, rfl, rfl, rfl⟩)
  case phk => exact none ((performs_pushAll [s.regs.pbr] s).to ⟨rfl, rfl, rfl, rfl⟩)
  case php =>
    have himage : bareAccesses .php s = pushList [s.regs.p.pack s.regs.e true] s.regs := by
      rw [pack_eq_image]
      rfl
    rw [himage] at none ⊢
    exact none ((performs_pushAll [s.regs.p.pack s.regs.e true] s).to ⟨rfl, rfl, rfl, rfl⟩)
  case phd => exact none ((performs_pushAll (pushWord s.regs.dr) s).to ⟨rfl, rfl, rfl, rfl⟩)
  case pea a => exact none ((performs_pushAll (pushWord a) s).to ⟨rfl, rfl, rfl, rfl⟩)
  case per a => exact none ((performs_pushAll (pushWord (s.regs.pc + 3 + a)) s).to ⟨rfl, rfl, rfl, rfl⟩)
  case pei o => exact none (performs_pei o s)
  case pla => exact none ((performs_pullWidth s.regs.p.m s).to ⟨rfl, rfl, rfl, rfl⟩)
  case plx | ply => exact none ((performs_pullWidth s.regs.p.x s).to ⟨rfl, rfl, rfl, rfl⟩)
  case plb | plp => exact none ((performs_pull8 s).to ⟨rfl, rfl, rfl, rfl⟩)
  case pld | rts => exact none ((performs_pull16 s).to ⟨rfl, rfl, rfl, rfl⟩)
  case rtl => exact none (performs_rtl s)
  case rti => exact none (performs_returnFromInterrupt s)
  case jsrAbs => exact none ((performs_pushAll (pushWord (s.regs.pc + 2)) s).to ⟨rfl, rfl, rfl, rfl⟩)
  case jsrAbsXInd a => exact none (performs_jsrIndexed a s)
  case jsl a => exact none (performs_jsl a s)
  case jmpAbsInd a => exact none ((performs_read16_b0 a s).to ⟨rfl, rfl, rfl, rfl⟩)
  case jmpAbsXInd a => exact none ((performs_read16_indexed a s).to ⟨rfl, rfl, rfl, rfl⟩)
  case jml a => exact none ((performs_read24_b0 a s).to ⟨rfl, rfl, rfl, rfl⟩)
  all_goals exact none ((Performs.refl s).to ⟨rfl, rfl, rfl, rfl⟩)

theorem performs_blockMove (negative : Bool) (dst src : Byte) (s : State) :
    ∃ as, Performs as 0 s (blockMove negative dst src s) := by
  unfold blockMove
  split
  · exact performs_blockLoop _ dst src _ s
  · have h := performs_blockPass (countsDown s.params.blockMoveDirection negative) dst src s
    dsimp only
    split
    · exact ⟨_, h.onRegs _⟩
    · exact ⟨_, h.onRegs _⟩

theorem exec_of_blockMove {i : Instr} (h : i.mnemonic ∈ [.mvn, .mvp]) :
    ∃ negative dst src, ∀ s, exec i s = .next (blockMove negative dst src s) := by
  cases i
  case mvn dst src => exact ⟨true, dst, src, fun _ => rfl⟩
  case mvp dst src => exact ⟨false, dst, src, fun _ => rfl⟩
  all_goals exact absurd h (by simp [Instr.mnemonic, Instr.coding])

/-! ### Every instruction -/

theorem operandAccesses_isRead {k : Mnemonic} (hk : k ∉ storers) (o : Operand) (s : State) :
    ∀ x ∈ operandAccesses k o s, x.2 = none := by
  cases o with
  | imm v => simp [operandAccesses]
  | mem md =>
    delta operandAccesses memoryAccesses
    refine List.forall_mem_append.mpr ⟨reads_isRead, ?_⟩
    split
    case h_1 | h_2 | h_3 | h_4 | h_5 | h_6 | h_7 | h_8 | h_9 | h_10 | h_11 | h_12 => exact absurd (by decide) hk
    all_goals exact reads_isRead

theorem bareAccesses_isRead {i : Instr} (hi : i.mnemonic ∉ storers) (s : State) :
    ∀ x ∈ bareAccesses i s, x.2 = none := by
  cases i
  case pha | phx | phy | phb | phk | php | phd | pea | per | pei | brk | cop | jsrAbs | jsrAbsXInd | jsl =>
    exact absurd hi (by simp [Instr.mnemonic, Instr.coding, storers])
  case pla | plx | ply | plb | plp | pld | rts | rtl | rti => exact pullList_isRead
  case jmpAbsInd | jmpAbsXInd => exact reads_isRead
  case jml => exact List.forall_mem_append.mpr ⟨reads_isRead, reads_isRead⟩
  all_goals exact fun x hx => absurd hx List.not_mem_nil

theorem dataOperand_of_accumulatorForm {i : Instr} (hi : i ∈ accumulatorForms) : i.dataOperand = none := by
  simp only [accumulatorForms, List.mem_cons, List.not_mem_nil, or_false] at hi
  obtain rfl | rfl | rfl | rfl | rfl | rfl := hi <;> rfl

theorem bareAccesses_of_accumulatorForm {i : Instr} (hi : i ∈ accumulatorForms) (s : State) :
    bareAccesses i s = [] := by
  simp only [accumulatorForms, List.mem_cons, List.not_mem_nil, or_false] at hi
  obtain rfl | rfl | rfl | rfl | rfl | rfl := hi <;> rfl

/-- Every instruction performs accesses, all of them reads where it is no storer, and draws only where the spec leaves
a value free. -/
theorem performs_exec {i : Instr} {s t : State} (ht : exec i s = .next t) :
    ∃ as d, Performs as d s t ∧ (i.mnemonic ∉ storers ∨ i ∈ accumulatorForms → ∀ x ∈ as, x.2 = none) ∧
      (d ≠ 0 → (i.mnemonic ∈ [.adc, .sbc] ∧ s.regs.p.d = true) ∨ (i.mnemonic = .cop ∧ s.regs.e = true)) := by
  cases ho : i.dataOperand with
  | some o =>
    obtain ⟨d, h, hd⟩ := performs_operandMeaning (mnemonic_of_dataOperand ho) o s
    cases Host.Outcome.next.inj ((exec_of_dataOperand ho s).symm.trans ht)
    refine ⟨_, d, h, ?_, fun h0 => .inl (hd h0)⟩
    rintro (hk | hi)
    · exact operandAccesses_isRead hk o s
    · rw [dataOperand_of_accumulatorForm hi] at ho
      cases ho
  | none =>
    by_cases hm : i.mnemonic ∈ [.mvn, .mvp]
    · obtain ⟨negative, dst, src, hx⟩ := exec_of_blockMove hm
      cases Host.Outcome.next.inj ((hx s).symm.trans ht)
      obtain ⟨as, h⟩ := performs_blockMove negative dst src s
      refine ⟨as, 0, h, ?_, fun h0 => absurd rfl h0⟩
      rintro (hk | hi)
      · exact absurd ((by decide : [Mnemonic.mvn, .mvp] ⊆ storers) hm) hk
      · simp only [accumulatorForms, List.mem_cons, List.not_mem_nil, or_false] at hi
        obtain rfl | rfl | rfl | rfl | rfl | rfl := hi <;> exact absurd hm (by decide)
    · obtain ⟨d, h, hd⟩ := performs_bare (by simp [ho]) hm ht
      refine ⟨_, d, h, ?_, fun h0 => .inr (hd h0)⟩
      rintro (hk | hi)
      · exact bareAccesses_isRead hk s
      · simp [bareAccesses_of_accumulatorForm hi]

theorem Performs.unseen {as : List Access} {d : Nat} {s t : State} (h : Performs as d s t)
    (hm : ∀ a, isMemory s a = true) : t.deviceLog = s.deviceLog := by
  obtain ⟨l, hl, hs⟩ := h.seen
  have hf : (as.filter fun a => decide (s.kindAt a.1 = .device)) = [] := by
    refine List.filter_eq_nil_iff.mpr fun a _ => ?_
    obtain hk | hk := isMemory_iff.mp (hm a.1) <;> simp [hk]
  rw [hf] at hs
  have hnil : l = [] := by simpa using hs
  rw [hl, hnil, List.nil_append]

theorem resetSequence_frame (s : State) : (resetSequence s).params = s.params ∧ (resetSequence s).mem = s.mem := by
  simp [resetSequence]

/-- A step leaves the parameters and every byte outside RAM. -/
theorem step_onlyRam {s t : State} (hw : s.mem.wf = true) (ht : step s = .next t) :
    t.params = s.params ∧ ∀ a, s.kindAt a ≠ .ram → t.byteAt a = s.byteAt a := by
  have of_performs {as : List Access} {d : Nat} {u v : State} (hp : u.params = s.params) (hm : u.mem = s.mem)
      (h : Performs as d u v) : v.params = s.params ∧ ∀ a, s.kindAt a ≠ .ram → v.byteAt a = s.byteAt a := by
    obtain ⟨-, hb⟩ := h.onlyRam (wf_of_mem hw hm)
    exact ⟨h.params.trans hp, fun a ha =>
      (hb a ((kindAt_congr hp a).symm ▸ ha)).trans (byteAt_congr hm a)⟩
  obtain ⟨-, hm, hp, -⟩ := takeInput_frame s
  obtain ⟨u, hb, hu⟩ | hb := boundary_cases (takeInput s)
  · cases Host.Outcome.next.inj ((step_of_done hb).symm.trans ht)
    obtain rfl | rfl | rfl | rfl := hu
    · obtain ⟨hrp, hrm⟩ := resetSequence_frame (takeInput s)
      exact ⟨hrp.trans hp, fun a _ => byteAt_congr (hrm.trans hm) a⟩
    · exact of_performs hp hm (Performs.refl _)
    · exact of_performs (u := { takeInput s with nmiPending := false }) hp hm (performs_enter .nmi _ false _)
    · exact of_performs hp hm (performs_enter .irq _ false _)
  · rw [step_of_execute hb] at ht
    obtain ⟨as, d, h, -⟩ := performs_exec ht
    exact of_performs (by simpa using hp) (by simpa using hm) h

end Sys2Proof.Machine

namespace Sys2Proof

open Sys2Proof.Machine Sys2Proof.Spec

/-- Settles O53: an instruction that is no storer performs reads alone. -/
theorem memoryWriters : Obligations.MemoryWriters := by
  unfold Obligations.MemoryWriters
  intro i s t hi ht
  obtain ⟨as, d, h, hread, -⟩ := performs_exec ht
  exact byteAt_congr (h.kept (hread hi))

/-- Settles O54. -/
theorem onlyRamChanges : Obligations.OnlyRamChanges := by
  unfold Obligations.OnlyRamChanges
  exact fun s t => step_onlyRam

/-- Settles O60: no access falls on a device, and the draws are those of `performs_exec`. -/
theorem freeValuesOnlyWhereTheSpecLeavesThem : Obligations.FreeValuesOnlyWhereTheSpecLeavesThem := by
  unfold Obligations.FreeValuesOnlyWhereTheSpecLeavesThem
  intro i s t hm ht
  obtain ⟨as, d, h, -, hd⟩ := performs_exec ht
  refine ⟨h.unseen hm, fun hdec hcop => ?_⟩
  have h0 : d = 0 := by
    by_contra h0
    exact (hd h0).elim hdec hcop
  rw [h.drawn hm, h0, Nat.add_zero]

end Sys2Proof
end

section
/-! PROOFS. The order of the accesses a device sees, in the words of the statements (R69). -/

namespace Sys2Proof.Machine

open Sys2Proof.Spec

theorem Performs.log_of_nil {d : Nat} {s t : State} (h : Performs [] d s t) : t.deviceLog = s.deviceLog := by
  obtain ⟨l, hl, hs⟩ := h.seen
  have hnil : l = [] := by simpa using hs
  rw [hl, hnil, List.nil_append]

theorem bareAccesses_eq_nil {i : Instr} (hi : i.mnemonic ∉ stackAndPointerUsers) (s : State) :
    bareAccesses i s = [] := by
  cases i
  case pha | phx | phy | phb | phk | php | phd | pea | per | pei | brk | cop | jsrAbs | jsrAbsXInd | jsl | pla | plx |
      ply | plb | plp | pld | rts | rtl | rti | jmpAbsInd | jmpAbsXInd | jml =>
    exact absurd hi (by simp [Instr.mnemonic, Instr.coding, stackAndPointerUsers])
  all_goals rfl

/-- With the invariant the places of pushes and pulls are those of the statements. -/
theorem bareAccesses_of_mem {s : State} (h : s.regs.inv = true) {i : Instr} {as : List Access} {o : Byte} {a : Word}
    {al : Addr} (hi : (i, as) ∈ stackAndPointerAccesses s o a al) :
    (∀ o, i.dataOperand ≠ some o) ∧ i.mnemonic ∉ [.mvn, .mvp] ∧ bareAccesses i s = as := by
  obtain ⟨hbrk, hcop, -⟩ := vectorAddr_eq s.regs.e
  simp only [← pushList_eq _ h, ← pullList_eq _ h, stackAndPointerAccesses, ← hbrk, ← hcop, List.mem_cons,
    Prod.mk.injEq, List.not_mem_nil, or_false] at hi
  obtain ⟨rfl, rfl⟩ | ⟨rfl, rfl⟩ | ⟨rfl, rfl⟩ | ⟨rfl, rfl⟩ | ⟨rfl, rfl⟩ | ⟨rfl, rfl⟩ | ⟨rfl, rfl⟩ | ⟨rfl, rfl⟩ |
    ⟨rfl, rfl⟩ | ⟨rfl, rfl⟩ | ⟨rfl, rfl⟩ | ⟨rfl, rfl⟩ | ⟨rfl, rfl⟩ | ⟨rfl, rfl⟩ | ⟨rfl, rfl⟩ | ⟨rfl, rfl⟩ | ⟨rfl,
    rfl⟩ | ⟨rfl, rfl⟩ | ⟨rfl, rfl⟩ | ⟨rfl, rfl⟩ | ⟨rfl, rfl⟩ | ⟨rfl, rfl⟩ | ⟨rfl, rfl⟩ | ⟨rfl, rfl⟩ | ⟨rfl, rfl⟩ |
    ⟨rfl, rfl⟩ | ⟨rfl, rfl⟩ | ⟨rfl, rfl⟩ | ⟨rfl, rfl⟩ := hi
  all_goals exact ⟨nofun, by simp [Instr.mnemonic, Instr.coding], rfl⟩

/-- A device read: what it answers, and that it is seen. -/
theorem readByte_device {a : Addr} {s : State} (h : s.kindAt a = .device) :
    readByte a s =
      (Config.deviceAnswer s.draws a, s.countDraw.logDevice (.read a (Config.deviceAnswer s.draws a))) := by
  simp [readByte, h]

theorem writeByte_device {a : Addr} (v : Byte) {s : State} (h : s.kindAt a = .device) :
    writeByte a v s = s.logDevice (.write a v) := by
  simp [writeByte, h]

section
variable {s : State} {ea : EA} (h0 : s.kindAt (ea.byteAddr 0) = .device) (h1 : s.kindAt (ea.byteAddr 1) = .device)
include h0 h1

theorem storeEA_device (v : Word) : (storeEA ea .w16 v s).deviceLog =
    .write (ea.byteAddr 1) (hi v) :: .write (ea.byteAddr 0) (lo v) :: s.deviceLog := by
  have h1' : (s.logDevice (.write (ea.byteAddr 0) (lo v))).kindAt (ea.byteAddr 1) = .device := h1
  rw [storeEA, writeByte_device _ h0, writeByte_device _ h1']
  rfl

theorem storeBackEA_device (v : Word) : (storeBackEA ea .w16 v s).deviceLog =
    .write (ea.byteAddr 0) (lo v) :: .write (ea.byteAddr 1) (hi v) :: s.deviceLog := by
  have h0' : (s.logDevice (.write (ea.byteAddr 1) (hi v))).kindAt (ea.byteAddr 0) = .device := h0
  rw [storeBackEA, writeByte_device _ h1, writeByte_device _ h0']
  rfl

theorem read16_device :
    (read16 ea s).1 =
      word (Config.deviceAnswer (s.draws + 1) (ea.byteAddr 1)) (Config.deviceAnswer s.draws (ea.byteAddr 0)) ∧
    (read16 ea s).2.deviceLog = .read (ea.byteAddr 1) (Config.deviceAnswer (s.draws + 1) (ea.byteAddr 1)) ::
      .read (ea.byteAddr 0) (Config.deviceAnswer s.draws (ea.byteAddr 0)) :: s.deviceLog := by
  have h1' : (s.countDraw.logDevice (.read (ea.byteAddr 0) (Config.deviceAnswer s.draws (ea.byteAddr 0)))).kindAt
    (ea.byteAddr 1) = .device := h1
  rw [read16, readByte_device h0, readByte_device h1']
  exact ⟨rfl, rfl⟩

end

theorem push16_device {s : State} (v : Word) (hr : s.regs.inv = true) (h0 : s.kindAt (slot s.regs 0) = .device)
    (h1 : s.kindAt (slot s.regs (-1)) = .device) : (push16 v s).deviceLog =
      .write (slot s.regs (-1)) (lo v) :: .write (slot s.regs 0) (hi v) :: s.deviceLog := by
  have hd : (push8 (hi v) s).regs.stackAddr = slot s.regs (-1) := by
    rw [push8_regs, decS_eq hr, stackAddr_eq (Regs.moved_inv _ hr), slot_moved]
    rfl
  have hk : (push8 (hi v) s).kindAt (slot s.regs (-1)) = .device := (kindAt_congr (by simp) _).trans h1
  have hlog : (push8 (hi v) s).deviceLog = .write (slot s.regs 0) (hi v) :: s.deviceLog := by
    rw [push8, stackAddr_eq hr, writeByte_device _ h0]
    rfl
  rw [push16, push8, hd, writeByte_device _ hk, ← hlog]
  rfl

end Sys2Proof.Machine

namespace Sys2Proof

open Sys2Proof.Machine Sys2Proof.Spec

/-- Settles O59: the accesses of `performs_operandMeaning`, `performs_bare` and `performs_blockPass`. -/
theorem deviceAccessOrder : Obligations.DeviceAccessOrder := by
  unfold Obligations.DeviceAccessOrder
  refine ⟨fun s ea v h0 h1 => ⟨storeEA_device h0 h1 v, storeBackEA_device h0 h1 v, read16_device h0 h1,
    push16_device v⟩, fun i s t h ht => ⟨fun md ho => ?_, fun o a al as hi => ?_, fun hno hi => ?_,
    fun dst src hi hper => ?_⟩⟩
  · obtain ⟨d, hp, -⟩ := performs_operandMeaning (mnemonic_of_dataOperand ho) (.mem md) s
    cases Host.Outcome.next.inj ((exec_of_dataOperand ho s).symm.trans ht)
    exact hp.seen
  · obtain ⟨ho, hm, rfl⟩ := bareAccesses_of_mem ((State.inv_iff s).mp h).1 hi
    obtain ⟨d, hp, -⟩ := performs_bare ho hm ht
    exact hp.seen
  · cases ho : i.dataOperand with
    | some o =>
      cases o with
      | mem md => exact absurd ho (hno md)
      | imm v =>
        obtain ⟨d, hp, -⟩ := performs_operandMeaning (mnemonic_of_dataOperand ho) (.imm v) s
        cases Host.Outcome.next.inj ((exec_of_dataOperand ho s).symm.trans ht)
        exact hp.log_of_nil
    | none =>
      have hm : i.mnemonic ∉ [.mvn, .mvp] := fun hm => hi ((by decide : [Mnemonic.mvn, .mvp] ⊆ stackAndPointerUsers) hm)
      obtain ⟨d, hp, -⟩ := performs_bare (by simp [ho]) hm ht
      rw [bareAccesses_eq_nil hi] at hp
      exact hp.log_of_nil
  · refine ⟨(passRead dst src s).1, passRead_value dst src s, ?_⟩
    obtain ⟨negative, hx⟩ : ∃ negative, exec i s = .next (blockMove negative dst src s) := by
      obtain rfl | rfl := hi
      · exact ⟨true, rfl⟩
      · exact ⟨false, rfl⟩
    cases Host.Outcome.next.inj (hx.symm.trans ht)
    have hp := performs_blockPass (countsDown s.params.blockMoveDirection negative) dst src s
    rw [blockMove, hper]
    dsimp only
    split
    · exact (hp.onRegs _).seen
    · exact (hp.onRegs _).seen

end Sys2Proof
end

section
/-! PROOFS. Who writes which register and which flag (R32, R38): for each mnemonic the fields it may change. -/

namespace Sys2Proof.Machine

open Sys2Proof.Spec

/-- The registers and flags, PC apart. -/
inductive Field where
  | c | x | y | s | dr | dbr | pbr | e | fn | fv | fm | fx | fd | fi | fz | fc
deriving DecidableEq

/-- The field is the same in two register files. -/
def Field.same (r r' : Regs) : Field → Prop
  | .c => r'.c = r.c
  | .x => r'.x = r.x
  | .y => r'.y = r.y
  | .s => r'.sp = r.sp
  | .dr => r'.dr = r.dr
  | .dbr => r'.dbr = r.dbr
  | .pbr => r'.pbr = r.pbr
  | .e => r'.e = r.e
  | .fn => r'.p.n = r.p.n
  | .fv => r'.p.v = r.p.v
  | .fm => r'.p.m = r.p.m
  | .fx => r'.p.x = r.p.x
  | .fd => r'.p.d = r.p.d
  | .fi => r'.p.i = r.p.i
  | .fz => r'.p.z = r.p.z
  | .fc => r'.p.c = r.p.c

/-- Every field but those of `fs` is the same. -/
def Changes (fs : List Field) (r r' : Regs) : Prop := ∀ f, f ∈ fs ∨ f.same r r'

theorem Changes.same {fs : List Field} {r r' : Regs} (h : Changes fs r r') {f : Field} (hf : f ∉ fs) : f.same r r' :=
  (h f).resolve_left hf

theorem Changes.of_eq {r r' : Regs} (h : r' = r) (fs : List Field) : Changes fs r r' := fun f => by
  subst h
  cases f <;> exact .inr rfl

theorem Changes.mono {fs gs : List Field} {r r' : Regs} (h : Changes fs r r') (hs : fs ⊆ gs) : Changes gs r r' :=
  fun f => (h f).imp_left fun hf => hs hf

theorem Changes.trans {fs : List Field} {r r' r'' : Regs} (h : Changes fs r r') (h' : Changes fs r' r'') :
    Changes fs r r'' := fun f => by
  obtain hf | hf := h f
  · exact .inl hf
  · refine (h' f).imp_right fun hf' => ?_
    cases f <;> exact Eq.trans hf' hf

theorem changes_iff {fs : List Field} {r r' : Regs} : Changes fs r r' ↔
    (.c ∈ fs ∨ r'.c = r.c) ∧ (.x ∈ fs ∨ r'.x = r.x) ∧ (.y ∈ fs ∨ r'.y = r.y) ∧ (.s ∈ fs ∨ r'.sp = r.sp) ∧
    (.dr ∈ fs ∨ r'.dr = r.dr) ∧ (.dbr ∈ fs ∨ r'.dbr = r.dbr) ∧ (.pbr ∈ fs ∨ r'.pbr = r.pbr) ∧ (.e ∈ fs ∨ r'.e = r.e) ∧
    (.fn ∈ fs ∨ r'.p.n = r.p.n) ∧ (.fv ∈ fs ∨ r'.p.v = r.p.v) ∧ (.fm ∈ fs ∨ r'.p.m = r.p.m) ∧
    (.fx ∈ fs ∨ r'.p.x = r.p.x) ∧ (.fd ∈ fs ∨ r'.p.d = r.p.d) ∧ (.fi ∈ fs ∨ r'.p.i = r.p.i) ∧
    (.fz ∈ fs ∨ r'.p.z = r.p.z) ∧ (.fc ∈ fs ∨ r'.p.c = r.p.c) := by
  refine ⟨fun h => ⟨h .c, h .x, h .y, h .s, h .dr, h .dbr, h .pbr, h .e, h .fn, h .fv, h .fm, h .fx, h .fd, h .fi,
    h .fz, h .fc⟩, ?_⟩
  rintro ⟨c, x, y, s, dr, dbr, pbr, e, fn, fv, fm, fx, fd, fi, fz, fc⟩ f
  cases f <;> assumption

/-- The fields a mnemonic may write in some form and mode (R32, R38). -/
def writes : Mnemonic → List Field
  | .adc | .sbc => [.c, .fn, .fv, .fz, .fc]
  | .and | .eor | .lda | .ora | .txa | .tya | .tdc | .tsc | .xba | .inc | .dec => [.c, .fn, .fz]
  | .cmp | .cpx | .cpy => [.fn, .fz, .fc]
  | .bit => [.fn, .fv, .fz]
  | .trb | .tsb => [.fz]
  | .ror | .asl | .lsr | .rol => [.c, .fn, .fz, .fc]
  | .ldx | .inx | .dex | .tax | .tsx | .tyx => [.x, .fn, .fz]
  | .ldy | .iny | .dey | .tay | .txy => [.y, .fn, .fz]
  | .txs => [.s, .fn, .fz]
  | .tcs | .pha | .phb | .phd | .phk | .php | .phx | .phy | .pea | .pei | .per | .jsr | .rts => [.s]
  | .tcd => [.dr, .fn, .fz]
  | .pla => [.s, .c, .fn, .fz]
  | .plx => [.s, .x, .fn, .fz]
  | .ply => [.s, .y, .fn, .fz]
  | .plb => [.s, .dbr, .fn, .fz]
  | .pld => [.s, .dr, .fn, .fz]
  | .rep | .sep => [.x, .y, .fn, .fv, .fm, .fx, .fd, .fi, .fz, .fc]
  | .plp => [.s, .x, .y, .fn, .fv, .fm, .fx, .fd, .fi, .fz, .fc]
  | .rti => [.s, .pbr, .x, .y, .fn, .fv, .fm, .fx, .fd, .fi, .fz, .fc]
  | .rtl | .jsl => [.s, .pbr]
  | .jmp | .jml => [.pbr]
  | .brk | .cop => [.s, .pbr, .fd, .fi]
  | .xce => [.x, .y, .s, .e, .fm, .fx, .fc]
  | .clc | .sec => [.fc]
  | .cld | .sed => [.fd]
  | .cli | .sei => [.fi]
  | .clv => [.fv]
  | .mvn | .mvp => [.c, .x, .y, .dbr]
  | _ => []

/-! ### Instructions with a data operand -/

theorem changes_addToAcc (w : Width) (m : Word) (s : State) :
    Changes [.c, .fn, .fv, .fz, .fc] s.regs (addToAcc w m s).regs := by
  unfold addToAcc
  dsimp only
  split_ifs <;> simp [changes_iff, decimalResult, decimalInvalid]

theorem changes_subFromAcc (w : Width) (m : Word) (s : State) :
    Changes [.c, .fn, .fv, .fz, .fc] s.regs (subFromAcc w m s).regs := by
  unfold subFromAcc
  dsimp only
  split_ifs <;> simp [changes_iff, decimalResult, decimalInvalid]

theorem changes_withAccOperand {fs : List Field} {f : Width → Word → State → State} (o : Operand) (s : State)
    (hf : ∀ w m t, Changes fs t.regs (f w m t).regs) : Changes fs s.regs (withAccOperand f o s).regs := by
  have h := hf s.regs.wA (loadOperand o s.regs.wA s).1 (loadOperand o s.regs.wA s).2
  rw [loadOperand_regs] at h
  simpa [changes_iff, withAccOperand] using h

theorem changes_withIndexOperand {fs : List Field} {f : Width → Word → Regs → Regs} (o : Operand) (s : State)
    (hf : ∀ w m r, Changes fs r (f w m r)) : Changes fs s.regs (withIndexOperand f o s).regs := by
  have h := hf s.regs.wX (loadOperand o s.regs.wX s).1 s.regs
  simpa [changes_iff, withIndexOperand] using h

theorem changes_modifyMem {fs : List Field} {F : Width → Word → Bool → Word × Bool} (md : MemMode) (s : State)
    (hn : .fn ∈ fs) (hz : .fz ∈ fs) (hc : .fc ∈ fs ∨ ∀ w v c, (F w v c).2 = c) :
    Changes fs s.regs (modifyMem F md s).regs := by
  have hc' := hc.imp_right fun h => h s.regs.wA (loadEA (effAddr md s).1 s.regs.wA (effAddr md s).2).1 s.regs.p.c
  simp [changes_iff, modifyMem, hn, hz, hc']

theorem changes_operandMeaning {k : Mnemonic} (hk : k ∈ operandMnemonics) (o : Operand) (s : State) :
    Changes (writes k) s.regs (operandMeaning k o s).regs := by
  simp only [operandMnemonics, List.mem_cons, List.not_mem_nil, or_false] at hk
  obtain rfl | rfl | hk := hk
  · exact changes_withAccOperand o s changes_addToAcc
  · exact changes_withAccOperand o s changes_subFromAcc
  obtain rfl | rfl | rfl | rfl | rfl | rfl | hk := hk
  iterate 5 exact changes_withAccOperand o s fun w m t => by simp [changes_iff, writes]
  · cases o <;> simp [changes_iff, writes, operandMeaning, bitTest]
  obtain rfl | rfl | rfl | rfl | hk := hk
  iterate 4 exact changes_withIndexOperand o s fun w m r => by simp [changes_iff, writes]
  cases o with
  | imm v =>
    obtain rfl | rfl | rfl | rfl | rfl | rfl | rfl | rfl | rfl | rfl | rfl | rfl := hk <;> exact Changes.of_eq rfl _
  | mem md =>
    obtain rfl | rfl | rfl | rfl | hk := hk
    · simp [changes_iff, writes, operandMeaning, staOp]
    · simp [changes_iff, writes, operandMeaning, stxOp]
    · simp [changes_iff, writes, operandMeaning, styOp]
    · simp [changes_iff, writes, operandMeaning, stzOp]
    obtain rfl | rfl | rfl | rfl | rfl | rfl | hk := hk
    iterate 4 exact changes_modifyMem md s (by decide) (by decide) (.inl (by decide))
    iterate 2 exact changes_modifyMem md s (by decide) (by decide) (.inr fun _ _ _ => rfl)
    obtain rfl | rfl := hk
    · simp [changes_iff, writes, operandMeaning, trbOp, testModify]
    · simp [changes_iff, writes, operandMeaning, tsbOp, testModify]

/-! ### Instructions without one -/

theorem changes_pushAll (bs : List Byte) (s : State) : Changes [.s] s.regs (pushAll bs s).regs := by
  induction bs generalizing s with
  | nil => exact Changes.of_eq rfl _
  | cons b bs ih =>
    have h : Changes [.s] s.regs (push8 b s).regs := by simp [changes_iff]
    have := ih (push8 b s)
    simp only [pushAll_cons, changes_iff] at this ⊢
    simpa using this

theorem changes_enter (src : IntSource) (ret : Word) (b : Bool) (s : State) :
    Changes [.s, .pbr, .fd, .fi] s.regs (enter src ret b s).regs := by
  have h := changes_pushAll (frame s.regs ret b) s
  rw [← pushFrame_eq] at h
  refine (h.mono (by decide)).trans ?_
  simp [changes_iff, enter]

theorem changes_pushOp (w : Width) (v : Word) (s : State) : Changes [.s] s.regs (pushOp w v s).regs := by
  cases w <;> simp [changes_iff, pushOp]

theorem changes_pullOp {fs : List Field} {f : Word → Regs → Regs} (w : Width) (s : State) (hs : .s ∈ fs)
    (hf : ∀ v r, Changes fs r (f v r)) : Changes fs s.regs (pullOp w f s).regs := by
  have hpull : Changes fs s.regs (pullWidth w s).2.regs := by cases w <;> simp [changes_iff, hs]
  refine (hpull.trans (hf (pullWidth w s).1 _)).trans ?_
  simp [changes_iff, pullOp]

theorem changes_branchIf (cond : Status → Bool) (off : Byte) (s : State) :
    Changes [] s.regs (branchIf cond off s).regs := by
  unfold branchIf
  rw [State.onRegs_regs]
  split <;> simp [changes_iff]

theorem changes_txs (s : State) : Changes [.s, .fn, .fz] s.regs (txsOp s).regs := by
  cases h : s.params.txsSetsNZ <;> simp [changes_iff, txsOp, impliedOp, h]

theorem changes_returnFromInterrupt (s : State) :
    Changes [.s, .pbr, .x, .y, .fn, .fv, .fm, .fx, .fd, .fi, .fz, .fc] s.regs (returnFromInterrupt s).regs := by
  unfold returnFromInterrupt
  dsimp only
  split <;> simp [changes_iff]

theorem changes_blockLoop (down : Bool) (dst src : Byte) (n : Nat) (s : State) :
    Changes [.c, .x, .y, .dbr] s.regs (blockLoop down dst src n s).regs := by
  induction n generalizing s with
  | zero => simp [changes_iff, blockLoop, blockFinish_regs, blockPass_regs]
  | succ n ih =>
    refine Changes.trans ?_ (ih _)
    simp [changes_iff, blockCount_regs, blockPass_regs]

theorem changes_blockMove (negative : Bool) (dst src : Byte) (s : State) :
    Changes [.c, .x, .y, .dbr] s.regs (blockMove negative dst src s).regs := by
  unfold blockMove
  split
  · exact changes_blockLoop _ dst src _ s
  · dsimp only
    split
    · simp [changes_iff, blockFinish_regs, blockPass_regs]
    · simp [changes_iff, blockCount_regs, blockPass_regs]

theorem changes_bare {i : Instr} {s t : State} (ho : ∀ o, i.dataOperand ≠ some o) (ht : exec i s = .next t) :
    Changes (writes i.mnemonic) s.regs t.regs := by
  cases i <;> try exact absurd rfl (ho _)
  all_goals have ht := Host.Outcome.next.inj ht; subst ht
  all_goals simp only [Instr.mnemonic, Instr.coding, writes]
  case cop =>
    unfold copOp
    split
    · exact changes_enter .cop _ _ s.countDraw
    · exact changes_enter .cop _ _ s
  case brk => exact changes_enter .brk _ true s
  case mvn => exact changes_blockMove true _ _ s
  case mvp => exact changes_blockMove false _ _ s
  case rti => exact changes_returnFromInterrupt s
  case pei => simp [changes_iff, peiOp, pushWordOp]
  case pha | phx | phy => exact changes_pushOp _ _ s
  case phb | phk | php => simp [changes_iff, pushByteOp]
  case phd | pea | per => simp [changes_iff, pushWordOp]
  case pla | plx | ply | pld => exact changes_pullOp _ s (by decide) fun v r => by simp [changes_iff]
  case plb => simp [changes_iff, plbOp]
  case plp => simp [changes_iff, plpOp]
  case rts => simp [changes_iff, rtsOp]
  case rtl => simp [changes_iff, rtlOp]
  case jsrAbs => simp [changes_iff, jumpNear, pushReturn]
  case jsrAbsXInd => simp [changes_iff, jsrIndexed, jumpThrough, jumpNear, pushReturn]
  case jsl => simp [changes_iff, jslOp, jumpFar, pushReturn]
  case jmpAbsInd | jmpAbsXInd => simp [changes_iff, jumpThrough, jumpNear]
  case jml => simp [changes_iff, jmlOp, jumpFar]
  case jmpAbs => simp [changes_iff, jumpNear]
  case jmpLong => simp [changes_iff, jumpFar]
  case rorAcc | aslAcc | lsrAcc | rolAcc => simp [changes_iff, modifyAcc]
  case incAcc | decAcc => simp [changes_iff, modifyAcc, incResult, decResult]
  case bcc | bcs | beq | bmi | bne | bpl | bra | bvc | bvs => exact changes_branchIf _ _ s
  case txs => exact changes_txs s
  case rep => simp [changes_iff, repOp]
  case sep => simp [changes_iff, sepOp]
  case brl => simp [changes_iff, branchLong]
  case xce => cases h : s.regs.p.c <;> simp [changes_iff, impliedOp, h]
  all_goals simp [changes_iff, impliedOp]

/-- Every instruction changes only the fields of its mnemonic. -/
theorem exec_changes {i : Instr} {s t : State} (ht : exec i s = .next t) :
    Changes (writes i.mnemonic) s.regs t.regs := by
  cases ho : i.dataOperand with
  | none => exact changes_bare (by simp [ho]) ht
  | some o =>
    cases Host.Outcome.next.inj ((exec_of_dataOperand ho s).symm.trans ht)
    exact changes_operandMeaning (mnemonic_of_dataOperand ho) o s

/-! ### B at 8 bits (R22) -/

theorem hi_withLow {r : Regs} (hm : r.p.m = true) (v : Word) : hi (withLow r.wA r.c v) = hi r.c := by
  simp [Regs.wA, hm, Width.ofFlag, withLow]

theorem hi_addToAcc {s : State} (hm : s.regs.p.m = true) (w : Width) (m : Word) :
    hi (addToAcc w m s).regs.c = hi s.regs.c := by
  unfold addToAcc
  dsimp only
  split_ifs <;> simp [decimalResult, decimalInvalid, hi_withLow hm]

theorem hi_subFromAcc {s : State} (hm : s.regs.p.m = true) (w : Width) (m : Word) :
    hi (subFromAcc w m s).regs.c = hi s.regs.c := by
  unfold subFromAcc
  dsimp only
  split_ifs <;> simp [decimalResult, decimalInvalid, hi_withLow hm]

theorem hi_withAccOperand {s : State} (hm : s.regs.p.m = true) {f : Width → Word → State → State} (o : Operand)
    (hf : ∀ w m t, t.regs.p.m = true → hi (f w m t).regs.c = hi t.regs.c) :
    hi (withAccOperand f o s).regs.c = hi s.regs.c := by
  have h := hf s.regs.wA (loadOperand o s.regs.wA s).1 (loadOperand o s.regs.wA s).2 (by simpa using hm)
  rwa [loadOperand_regs] at h

/-- The mnemonics with a data operand that write the accumulator in some form. -/
def accOperandMnemonics : List Mnemonic :=
  [.adc, .sbc, .and, .eor, .lda, .ora, .ror, .asl, .lsr, .rol, .inc, .dec]

theorem hi_operandMeaning {s : State} (hm : s.regs.p.m = true) {k : Mnemonic} (hk : k ∈ accOperandMnemonics)
    (o : Operand) : hi (operandMeaning k o s).regs.c = hi s.regs.c := by
  simp only [accOperandMnemonics, List.mem_cons, List.not_mem_nil, or_false] at hk
  obtain rfl | rfl | rfl | rfl | rfl | rfl | hk := hk
  · exact hi_withAccOperand hm o fun w m t ht => hi_addToAcc ht w m
  · exact hi_withAccOperand hm o fun w m t ht => hi_subFromAcc ht w m
  iterate 4 exact hi_withAccOperand hm o fun w m t ht => by simp [hi_withLow ht]
  obtain rfl | rfl | rfl | rfl | rfl | rfl := hk <;> cases o <;> simp [operandMeaning, modifyMem]

theorem hi_bare {i : Instr} {s t : State} (hm : s.regs.p.m = true) (ho : ∀ o, i.dataOperand ≠ some o)
    (hk : i.mnemonic ∉ wholeCWriters) (hc : Field.c ∈ writes i.mnemonic) (ht : exec i s = .next t) :
    hi t.regs.c = hi s.regs.c := by
  cases i <;> try exact absurd rfl (ho _)
  all_goals have ht := Host.Outcome.next.inj ht; subst ht
  case rorAcc | aslAcc | lsrAcc | rolAcc | incAcc | decAcc => simp [modifyAcc, hi_withLow hm]
  case txa | tya => simp [impliedOp, hi_withLow hm]
  case pla => simp [pullOp, Regs.wA, hm, Width.ofFlag, withLow]
  case tdc | tsc | xba | mvn | mvp => exact absurd hk (by simp [Instr.mnemonic, Instr.coding, wholeCWriters])
  all_goals exact absurd hc (by simp [Instr.mnemonic, Instr.coding, writes])

/-- B is kept by every instruction but those that write all of C. -/
theorem exec_keepsB {i : Instr} {s t : State} (hm : s.regs.p.m = true) (hk : i.mnemonic ∉ wholeCWriters)
    (ht : exec i s = .next t) : hi t.regs.c = hi s.regs.c := by
  by_cases hc : Field.c ∈ writes i.mnemonic
  · cases ho : i.dataOperand with
    | some o =>
      cases Host.Outcome.next.inj ((exec_of_dataOperand ho s).symm.trans ht)
      refine hi_operandMeaning hm ?_ o
      have hops := mnemonic_of_dataOperand ho
      revert hops hc
      cases i.mnemonic <;> decide
    | none => exact hi_bare hm (by simp [ho]) hk hc ht
  · exact congrArg hi ((exec_changes ht).same hc)

/-! ### What the table of fields does not say -/

/-- A field that only mnemonics of a list may write is the same after every other instruction. -/
theorem exec_same {f : Field} {i : Instr} {s t : State} {ks : List Mnemonic} (ht : exec i s = .next t)
    (hk : i.mnemonic ∉ ks) (hf : ∀ k, f ∈ writes k → k ∈ ks := by intro k; cases k <;> decide) : f.same s.regs t.regs :=
  (exec_changes ht).same fun hm => hk (hf _ hm)

theorem jmp_pbr {i : Instr} {s t : State} (hk : i.mnemonic = .jmp) (hl : ∀ al, i ≠ .jmpLong al)
    (ht : exec i s = .next t) : t.regs.pbr = s.regs.pbr := by
  cases i
  case jmpLong al => exact absurd rfl (hl al)
  case jmpAbs | jmpAbsInd | jmpAbsXInd =>
    have ht := Host.Outcome.next.inj ht
    subst ht
    simp [jumpThrough, jumpNear]
  all_goals exact absurd hk (by simp [Instr.mnemonic, Instr.coding])

/-- BIT immediate writes Z alone. -/
theorem bitImm_changes {i : Instr} {s t : State} (hk : i.mnemonic = .bit) (hmode : i.mode = .immediate)
    (ht : exec i s = .next t) : Changes [.fz] s.regs t.regs := by
  obtain ⟨o, ho⟩ := exists_dataOperand (List.mem_singleton.mpr hk)
  obtain ⟨v, rfl⟩ := (mode_eq_immediate_iff ho).mp hmode
  cases Host.Outcome.next.inj ((exec_of_dataOperand ho s).symm.trans ht)
  rw [hk]
  simp [changes_iff, operandMeaning, bitTest]

theorem pLoader_cases {i : Instr} (hk : i.mnemonic ∈ pLoaders) :
    (∃ imm, i = .rep imm) ∨ (∃ imm, i = .sep imm) ∨ i = .plp ∨ i = .rti := by
  cases i
  case rep imm => exact .inl ⟨imm, rfl⟩
  case sep imm => exact .inr (.inl ⟨imm, rfl⟩)
  case plp => exact .inr (.inr (.inl rfl))
  case rti => exact .inr (.inr (.inr rfl))
  all_goals exact absurd hk (by simp [Instr.mnemonic, Instr.coding, pLoaders])

/-- REP leaves X and Y: it sets no flag that narrows them. -/
theorem rep_index {i : Instr} {s t : State} (h : s.regs.inv = true) (hk : i.mnemonic = .rep)
    (ht : exec i s = .next t) : t.regs.x = s.regs.x ∧ t.regs.y = s.regs.y := by
  obtain ⟨-, hx, -⟩ := (Regs.inv_iff _).mp h
  obtain ⟨imm, rfl⟩ | ⟨imm, rfl⟩ | rfl | rfl := pLoader_cases (i := i) (by rw [hk]; decide)
  case inl =>
    obtain ⟨hrep, -⟩ := statusBitInstructions s imm h
    cases Host.Outcome.next.inj (hrep.symm.trans ht)
    have hflag : (setBits s.regs.e (fun flag bit => flag && !bit) imm s.regs.p).x = true → s.regs.p.x = true := by
      simp only [setBits]
      split <;> simp +contextual
    exact ⟨low_of_hi fun hf => (hx (hflag hf)).1, low_of_hi fun hf => (hx (hflag hf)).2⟩
  all_goals exact absurd hk (by simp [Instr.mnemonic, Instr.coding])

/-- RTI in emulation mode leaves PBR. -/
theorem rti_pbr {i : Instr} {s t : State} (h : s.regs.inv = true) (he : s.regs.e = true) (hk : i.mnemonic = .rti)
    (ht : exec i s = .next t) : t.regs.pbr = s.regs.pbr := by
  obtain ⟨imm, rfl⟩ | ⟨imm, rfl⟩ | rfl | rfl := pLoader_cases (i := i) (by rw [hk]; decide)
  case inr.inr.inr =>
    obtain ⟨v, a, k, -, hu⟩ := returnFromInterrupt_spec h
    cases Host.Outcome.next.inj ht
    exact (congrArg Regs.pbr hu.regs).trans (if_pos he)
  all_goals exact absurd hk (by simp [Instr.mnemonic, Instr.coding])

/-- In emulation mode nothing that loads P writes M or X. -/
theorem load_keeps_widths {i : Instr} {s t : State} (he : s.regs.e = true) (hk : i.mnemonic ∈ pLoaders)
    (ht : exec i s = .next t) : t.regs.p.m = s.regs.p.m ∧ t.regs.p.x = s.regs.p.x := by
  obtain ⟨imm, rfl⟩ | ⟨imm, rfl⟩ | rfl | rfl := pLoader_cases hk
  all_goals have ht := Host.Outcome.next.inj ht; subst ht
  · simp [repOp, he]
  · simp [sepOp, he]
  · simp [plpOp, he]
  · simp [returnFromInterrupt, he]

end Sys2Proof.Machine

namespace Sys2Proof

open Sys2Proof.Machine Sys2Proof.Spec

/-- Settles O51: `exec_same` by the table of fields; B, REP, the forms of JMP and RTI in emulation mode apart. -/
theorem registerWriters : Obligations.RegisterWriters := by
  unfold Obligations.RegisterWriters
  intro i s t h ht
  obtain ⟨hr, -⟩ := (State.inv_iff s).mp h
  refine ⟨exec_same (f := .c) ht, fun hm hk => exec_keepsB hm hk ht, fun hk => ?_, fun hk => ?_, exec_same (f := .s) ht,
    exec_same (f := .dr) ht, exec_same (f := .dbr) ht, fun hk hl => ?_, fun hk he => ?_,
    fun hk => exec_same (f := .e) (ks := [.xce]) ht (by simpa using hk)⟩
  · by_cases hrep : i.mnemonic = .rep
    · exact (rep_index hr hrep ht).1
    · exact exec_same (f := .x) (ks := .rep :: xWriters) ht (by simp [hrep, hk])
  · by_cases hrep : i.mnemonic = .rep
    · exact (rep_index hr hrep ht).2
    · exact exec_same (f := .y) (ks := .rep :: yWriters) ht (by simp [hrep, hk])
  · by_cases hjmp : i.mnemonic = .jmp
    · exact jmp_pbr hjmp hl ht
    · exact exec_same (f := .pbr) (ks := .jmp :: [.jml, .jsl, .rtl, .rti, .brk, .cop]) ht
        fun hm => (List.mem_cons.mp hm).elim hjmp hk
  · exact rti_pbr hr he hk ht

/-- Settles O52: `exec_same` by the table of fields; BIT immediate and the loads of P in emulation mode apart. -/
theorem flagWriters : Obligations.FlagWriters := by
  unfold Obligations.FlagWriters
  intro i s t ht
  refine ⟨fun hk => ?_, fun hk => ?_, fun hk => ?_, exec_same (f := .fd) ht, exec_same (f := .fi) ht,
    exec_same (f := .fz) ht, exec_same (f := .fc) ht⟩
  · obtain hk | ⟨hk, hmode⟩ := hk
    · exact exec_same (f := .fn) ht hk
    · exact (bitImm_changes hk hmode ht).same (f := .fn) (by decide)
  · obtain hk | ⟨hk, hmode⟩ := hk
    · exact exec_same (f := .fv) ht hk
    · exact (bitImm_changes hk hmode ht).same (f := .fv) (by decide)
  · obtain hk | ⟨he, hk⟩ := hk
    · exact ⟨exec_same (f := .fm) ht hk, exec_same (f := .fx) ht hk⟩
    · exact load_keeps_widths he hk ht

end Sys2Proof
end
